-- ==== Sys2Proof/Word.lean ====
section
/-! DEFINITION. The words of the FW418: the widths in which the manual counts its digits, addresses,
patterns and counters. -/

namespace Sys2Proof

/-- A 4-bit value, 0h to Fh, carried in a data unit (the manual's "digit"; R1, section 1.1). -/
abbrev Digit := BitVec 4

/-- A station address 00h to 7Fh: bits 6..4 are the row, bits 3..0 the column (R5). -/
abbrev Addr := BitVec 7

/-- A pattern entry of a conversion page, 00h to FFh (R63). -/
abbrev Pattern := BitVec 8

/-- A counter of the supervision unit, 0 to 255 (R168). -/
abbrev Count := BitVec 8

end Sys2Proof
end

