-- ==== Sys2Proof/Syntax.lean ====
section
/-! DEFINITION. The commands of the FW418: one constructor of `Instr` for each row of
spec/opcode_table.json, with its operands. -/

namespace Sys2Proof

/-- The two receivers' inputs: UIN (upstream) and SIN (spur). -/
inductive Port where
  | upstream
  | spur
  deriving DecidableEq, Repr

/-- The two transmitters' outputs: DOUT (downstream) and SOUT (spur). -/
inductive Output where
  | downstream
  | spur
  deriving DecidableEq, Repr

/-- How a receiver completed a frame (section 1.7). -/
inductive Ending where
  | ended
  | truncated
  | overlong
  deriving DecidableEq, Repr

/-- One 5-bit line unit: a mark flag and a 4-bit value (section 1.1). -/
structure LineUnit where
  mark : Bool
  value : Digit
  deriving DecidableEq, Repr

/-- Who sends a frame addressed to the part, and how it comes: the input it arrives on, its source
address and its sequence digit (R3, R20). -/
structure Requester where
  port : Port
  src : Addr
  seq : Digit
  deriving DecidableEq, Repr

/-- The six digits of an address-map entry as a load carries them (R17). -/
structure EntryDigits where
  action : Digit
  selector : Digit
  rowModifier : Digit
  columnStep : Digit
  options : Digit
  page : Digit
  deriving DecidableEq, Repr

/-- The commands: one constructor per row of spec/opcode_table.json. A command that names a `Requester` is an
intact frame to the part's own address, arriving whole on the requester's input; its operands are the
frame's payload digits in the layout of R16 and R18. -/
inductive Instr where
  /-- POWER_ON_RESET (R2, R5): release of RESET with these straps and pin levels (bit j is LINEj). -/
  | powerOnReset (rate : BitVec 2) (adr : Addr) (pins : BitVec 12)
  /-- RECEIVE_UNIT (R9): one line unit arrives on an input. -/
  | receiveUnit (p : Port) (u : LineUnit)
  /-- RUN_GAP_EXPIRY (R87). -/
  | runGapExpiry
  /-- TAKE_FRAME (R20): a receiver hands over the three things of a completion, and the frame is taken. -/
  | takeFrame (p : Port) (e : Ending) (ds : List Digit)
  /-- OWN_WRITE (R118). -/
  | ownWrite (q : Requester) (cell : Digit) (values : List Digit)
  /-- OWN_ADJUST (R118). -/
  | ownAdjust (q : Requester) (cell : Digit) (masks : List Digit)
  /-- OWN_READ (R120). -/
  | ownRead (q : Requester) (cell count : Digit) (masks : List Digit)
  /-- RESET_TRAFFIC (R148): RESET, scope 1h. -/
  | resetTraffic (q : Requester)
  /-- RESET_FULL (R148): RESET, scope 2h. -/
  | resetFull (q : Requester)
  /-- LOAD_ENTRY (R44). -/
  | loadEntry (q : Requester) (row col : Digit) (e : EntryDigits)
  /-- LOAD_BLOCK (R44). -/
  | loadBlock (q : Requester) (row col last : Digit) (e : EntryDigits)
  /-- LOAD_PATTERNS (R64). -/
  | loadPatterns (q : Requester) (page indexHigh indexLow count : Digit) (patterns : List Pattern)
  /-- COPY_ACTIVE (R41). -/
  | copyActive (q : Requester)
  /-- COMMIT (R154). -/
  | commit (q : Requester)
  /-- SWAP (R40). -/
  | swap
  /-- READ_ENTRY (R45). -/
  | readEntry (q : Requester) (bank row col : Digit)
  /-- READ_PATTERNS (R65). -/
  | readPatterns (q : Requester) (bank page indexHigh indexLow count : Digit)
  /-- STATUS (R149). -/
  | status (q : Requester)
  /-- READ_COUNTERS (R150). -/
  | readCounters (q : Requester) (group : Digit)
  /-- CLEAR_FAULT_LATCHES (R169): CLEAR with bit 0 of its selection set, and bit 1 as given. -/
  | clearFaultLatches (q : Requester) (alsoCounters : Bool)
  /-- CLEAR_COUNTERS (R169): CLEAR with bit 1 of its selection set, and bit 0 as given. -/
  | clearCounters (q : Requester) (alsoLatches : Bool)
  /-- SET_LINE (R133). -/
  | setLine (q : Requester) (line mode edge hold : Digit)
  /-- SET_REPORTING (R131). -/
  | setReporting (q : Requester) (mode row col code : Digit)
  /-- SET_SPUR_ENABLE (R107): SET SPUR, enable 1h. -/
  | setSpurEnable (q : Requester) (watch : Digit)
  /-- SET_SPUR_DISABLE (R108): SET SPUR, enable 0h. -/
  | setSpurDisable (q : Requester) (watch : Digit)
  /-- SET_OPTIONS (R170). -/
  | setOptions (q : Requester) (policy gap silence : Digit)
  /-- SET_MANAGER (R153). -/
  | setManager (q : Requester) (slot present row col : Digit)
  /-- TRANSMITTER_READY (R13). -/
  | transmitterReady (o : Output)
  /-- FRAME_DEPARTS (R100). -/
  | frameDeparts
  /-- SPUR_FRAME_DEPARTS (R104). -/
  | spurFrameDeparts
  /-- UPSTREAM_SILENCE (R161). -/
  | upstreamSilence
  /-- UPSTREAM_RESTORE (R162). -/
  | upstreamRestore
  /-- SPUR_WATCH_EXPIRY (R105). -/
  | spurWatchExpiry
  /-- SPUR_RESTORE (R106). -/
  | spurRestore
  /-- LINE_SAMPLE (R115): a sample time, with the levels the panel gives the released pins (bit j is LINEj). -/
  | lineSample (pins : BitVec 12)
  /-- SERVICE_TICK (R160). -/
  | serviceTick
  /-- RESET_ASSERTED (R15). -/
  | resetAsserted
  deriving DecidableEq, Repr

end Sys2Proof
end

