-- ==== Sys2Proof/Config.lean ====
section
/-! DEFINITION. What one FW418 fixes for good: the capacities and limits the manual states, the straps and
pin levels the model names for `State.reset`, and the free values the manual leaves open. -/

namespace Sys2Proof

/-- The broadcast address 7Fh, which no station may own (R5). -/
def Config.broadcast : Addr := 0x7F#7

/-- Capacity of the transit queue (R28, R92). -/
def Config.transitCapacity : Nat := 6

/-- Capacity of the spur-out queue (R28, R92). -/
def Config.spurOutCapacity : Nat := 4

/-- Capacity of the spur return queue (R28, R92). -/
def Config.spurReturnCapacity : Nat := 4

/-- Most REPLY frames the insertion queue holds (R94). -/
def Config.replyAllowance : Nat := 2

/-- Digits an assembly buffer holds (section 1.7, R9). -/
def Config.bufferDigits : Nat := 24

/-- IDLE units a transmitter sends after an END or an abort before it is READY (R13). -/
def Config.fillIdles : Nat := 2

/-- Consecutive IDLE units of the restore condition (R106, R162). -/
def Config.restoreIdles : Nat := 64

/-- The value at which the gap count stays (R34). -/
def Config.gapLimit : Nat := 63

/-- The value at which the silence count and the spur watch count stay (R105, R160). -/
def Config.tickLimit : Nat := 15

/-- FREE VALUE. The n-th order that the manual leaves open: which of two things that come about in one
step the part takes first. No value of it can be proved, so a statement holds for every order.
UNVERIFIED, safe; assumption log 3. -/
opaque Config.free : Nat → Nat

/-- DESIGN CHOICE, unsafe; assumption log 2. The RATE straps that `State.reset` was released with: the
part of chapter 10 is strapped to 125 000 units per second, code 01b. -/
def Config.resetRate : BitVec 2 := 0b01#2

/-- DESIGN CHOICE, unsafe; assumption log 2. The ADR straps that `State.reset` was released with: the
part of the manual's examples has own address 30h. -/
def Config.resetAdr : Addr := 0x30#7

/-- DESIGN CHOICE, unsafe; assumption log 2. The pin levels sampled at the release that `State.reset`
stands for: every pin released and high (R113, R134). -/
def Config.resetPins : BitVec 12 := 0xFFF#12

end Sys2Proof
end

