-- ==== Sys2Proof/Machine/State.lean ====
section
/-! DEFINITION. The state of the FW418, block by block as the manual's block overview lists it (00_scope), as plain
data, and its value after a power-on reset. -/

namespace Sys2Proof.Machine

/-- Why the machine stops with a fault. The manual gives the part no condition in which it stops, so the type has
no constructor and nobody raises a fault: safe. -/
inductive Fault where
  deriving DecidableEq, Repr

/-- Why a command has no meaning. -/
inductive Refusal where
  /-- Raised by `exec` alone, for a command whose meaning is not written; safe, since the machine stops. -/
  | notModelled (mnemonic : String)
  deriving DecidableEq, Repr

/-! ## Receivers (section 1.7) -/

/-- The three states of a receiver (section 1.7). -/
inductive RxState where
  | hunt
  | assemble
  | skip
  deriving DecidableEq, Repr

/-- A receiver: its state and its assembly buffer of up to 24 digits, in line order (section 1.7). -/
structure Receiver where
  state : RxState
  buffer : List Digit
  deriving DecidableEq, Repr

/-! ## Map store (chapters 3 and 4) -/

/-- The five actions of an address-map entry (R17, R42). -/
inductive Action where
  | pass
  | remap
  | divert
  | mirror
  | absorb
  deriving DecidableEq, Repr

/-- An address-map entry in its stored form (R42, R43). -/
structure Entry where
  action : Action
  selector : BitVec 2
  rowModifier : BitVec 3
  columnStep : Digit
  translate : Bool
  absorbRuns : Bool
  spill : Bool
  fallbackAbsorb : Bool
  page : Digit
  deriving DecidableEq, Repr

/-- The entry of six zero digits: PASS, every stored field zero (R61). -/
def Entry.zero : Entry :=
  { action := .pass, selector := 0#2, rowModifier := 0#3, columnStep := 0#4, translate := false,
    absorbRuns := false, spill := false, fallbackAbsorb := false, page := 0#4 }

/-- A bank (R37): 128 entries, keyed by address; the 256 pattern entries of its 8 pages, keyed by 32 × page +
index (R63); and the 8 page-valid flags, bit p for page p. Both stores list only what differs from their reset
contents (`Store.wf`). -/
structure Bank where
  entries : List (Nat × Entry)
  pages : List Host.Cell
  valid : BitVec 8
  deriving DecidableEq, Repr

/-- The letters of the two banks (R37). -/
inductive BankName where
  | a
  | b
  deriving DecidableEq, Repr

/-- The map store: both banks, the active-bank pointer and the generation number (R37, R38). -/
structure MapStore where
  bankA : Bank
  bankB : Bank
  active : BankName
  generation : Digit
  deriving DecidableEq, Repr

/-! ## Run filter (chapter 5) -/

/-- The run record (R81): `isOpen` is OPEN, its negation NONE. -/
structure RunRecord where
  isOpen : Bool
  dest : Addr
  cell : Digit
  adjustTaken : Bool
  deriving DecidableEq, Repr

/-! ## Frame stores and transmitters (chapter 6, section 1.8) -/

/-- LIVE or SILENT (R160). -/
inductive UpState where
  | live
  | silent
  deriving DecidableEq, Repr

/-- DISABLED, CLOSED or OPEN (R103). -/
inductive SpurState where
  | disabled
  | closed
  | opened
  deriving DecidableEq, Repr

/-- A condition tag (R95): the last-reported states that the BREAK replaced, and those that it reported. -/
structure ConditionTag where
  oldUp : UpState
  oldSpur : SpurState
  newUp : UpState
  newSpur : SpurState
  deriving DecidableEq, Repr

/-- The notifications owed for a held frame (R95). Lines are numbered 0 to 11, and 12 is the fault pseudo-line Ch. -/
inductive Tag where
  | none
  | report (lines : List (Fin 13))
  | condition (t : ConditionTag)
  deriving DecidableEq, Repr

/-- A frame held in a queue: its digits F0, F1, … as they will be sent, and its tag (R92, R95). -/
structure Held where
  digits : List Digit
  tag : Tag
  deriving DecidableEq, Repr

/-- The five frame stores (R92). -/
inductive Source where
  | transit
  | spurReturn
  | insertion
  | reply
  | spurOut
  deriving DecidableEq, Repr

/-- A transmitter (section 1.8): in FILL with the IDLE units it has counted, READY, or in SEND with the store whose
frame it sends and how many of that frame's units it has sent. -/
inductive Tx where
  | fill (idles : Nat)
  | ready
  | send (src : Source) (sent : Nat)
  deriving DecidableEq, Repr

/-- The merge unit: its three queues, oldest frame first, the grant pointer, the downstream transmitter and the
unit last sent on DOUT (R92, R93, R98). -/
structure Merge where
  transit : List Held
  spurReturn : List Held
  insertion : List Held
  pointer : Fin 4
  tx : Tx
  dout : LineUnit
  deriving DecidableEq, Repr

/-- The spur unit: spur state, watch time in ms, watch count, restore count, the spur-out queue, oldest frame first,
the spur transmitter and the unit last sent on SOUT (section 6.4). -/
structure SpurUnit where
  state : SpurState
  watchTime : Digit
  watchCount : Nat
  restoreCount : Nat
  queue : List Held
  tx : Tx
  sout : LineUnit
  deriving DecidableEq, Repr

/-! ## Line unit (chapter 7) -/

/-- The modes of a line (R113). -/
inductive LineMode where
  | disabled
  | input
  | catching
  | output
  deriving DecidableEq, Repr

/-- The edge setting of a line (R117). -/
inductive Edge where
  | falling
  | rising
  | both
  deriving DecidableEq, Repr

/-- The line record of a line with a pin, but for its catch record (R113). -/
structure Line where
  mode : LineMode
  edge : Edge
  hold : Digit
  sampled : Bool
  run : Digit
  qualified : Bool
  retire : Bool
  deriving DecidableEq, Repr

/-- The catch states (R122). -/
inductive CatchState where
  | none
  | armed
  | caught
  | reporting
  deriving DecidableEq, Repr

/-- The catch state of a line or of the pseudo-line, with the counts c and n (R113). -/
structure Catch where
  state : CatchState
  c : Digit
  n : Digit
  deriving DecidableEq, Repr

/-- POLL or EVENT (R131). -/
inductive ReportMode where
  | poll
  | event
  deriving DecidableEq, Repr

/-- The line unit (R113): line records 0h to Bh, catch records 0h to Ch, the three output latch digits and the shared
settings. -/
structure LineBlock where
  lines : Vector Line 12
  catches : Vector Catch 13
  latches : Vector Digit 3
  reportMode : ReportMode
  reportAddr : Addr
  sampleCode : BitVec 2
  eventSeq : Digit
  deriving DecidableEq, Repr

/-! ## Management unit (chapter 8) -/

/-- The reply slot (R137, R145); in FULL and SENDING it holds the MGMT-REPLY's digits. -/
inductive ReplySlot where
  | free
  | reserved
  | full (digits : List Digit)
  | sending (digits : List Digit)
  deriving DecidableEq, Repr

/-- The last-command record when it is not empty (R137). -/
structure LastCommand where
  src : Addr
  seq : Digit
  command : Digit
  payload : List Digit
  deriving DecidableEq, Repr

/-- The management unit (R137): two manager slots, the reply slot, the last-command record, and the commit-pending
state with the COMMIT's source and sequence digit. While it is pending, the map store's swap is pending (R39). -/
structure Management where
  manager0 : Option Addr
  manager1 : Option Addr
  reply : ReplySlot
  last : Option LastCommand
  commit : Option (Addr × Digit)
  deriving DecidableEq, Repr

/-! ## Supervision unit (chapter 9) -/

/-- The damaged policy (R22). -/
inductive Policy where
  | forward
  | drop
  deriving DecidableEq, Repr

/-- The supervision unit (chapter 9). The fault latches are one word: its low digit is STATUS digit 5 and its high
digit STATUS digit 4 (R19). The counters stand in the order of R19, group 0h first. -/
structure Supervision where
  up : UpState
  silenceCount : Nat
  restoreCount : Nat
  lastUp : UpState
  lastSpur : SpurState
  latches : BitVec 8
  counters : Vector Count 12
  policy : Policy
  gap : Digit
  silenceTime : Digit
  deriving DecidableEq, Repr

/-! ## The whole part -/

/-- An event of the table that has come about and is not yet taken. The part takes it before anything else (assumption
log 4). -/
inductive Due where
  | runGapExpiry
  | swap
  | upstreamSilence
  | upstreamRestore
  | spurWatchExpiry
  | spurRestore
  deriving DecidableEq, Repr

/-- The FW418. `due`, `choices` and `pending` are the model's own fields: the events that have come about and are not
yet taken, the number of free values consumed, and the commands that wait, first in, first out. -/
structure State where
  resetLow : Bool
  rate : BitVec 2
  adr : Addr
  upRx : Receiver
  spurRx : Receiver
  gapCount : Nat
  map : MapStore
  run : RunRecord
  merge : Merge
  spur : SpurUnit
  line : LineBlock
  mgmt : Management
  sup : Supervision
  due : List Due
  choices : Nat
  pending : List Instr
  deriving DecidableEq, Repr

/-! ## Values after a power-on reset -/

/-- The IDLE unit (R1). -/
def unitIdle : LineUnit := { mark := true, value := 0xF#4 }

/-- A receiver after a power-on reset: HUNT, empty buffer (R12). -/
def Receiver.reset : Receiver := { state := .hunt, buffer := [] }

/-- A bank after a power-on or FULL reset (R61, R79): all PASS, every pattern 00h, every flag clear. -/
def Bank.reset : Bank := { entries := [], pages := [], valid := 0#8 }

/-- The map store after a power-on or FULL reset (R61). -/
def MapStore.reset : MapStore := { bankA := .reset, bankB := .reset, active := .a, generation := 0#4 }

/-- The run record when it is NONE (R81). -/
def RunRecord.closed : RunRecord := { isOpen := false, dest := 0#7, cell := 0#4, adjustTaken := false }

/-- The merge unit after a power-on reset (R102). -/
def Merge.reset : Merge :=
  { transit := [], spurReturn := [], insertion := [], pointer := 0, tx := .fill 0, dout := unitIdle }

/-- The spur unit after a power-on reset (R110). -/
def SpurUnit.reset : SpurUnit :=
  { state := .disabled, watchTime := 4#4, watchCount := 0, restoreCount := 0, queue := [], tx := .fill 0,
    sout := unitIdle }

/-- A line's record after a power-on or FULL reset with this level sampled (R134). -/
def Line.reset (level : Bool) : Line :=
  { mode := .input, edge := .falling, hold := 1#4, sampled := level, run := 0#4, qualified := level, retire := false }

/-- A catch record with no count (R113). -/
def Catch.empty (st : CatchState) : Catch := { state := st, c := 0#4, n := 0#4 }

/-- A vector given element by element. -/
def tabulate {α : Type} {n : Nat} (f : Fin n → α) : Vector α n := ⟨⟨List.ofFn f⟩, by simp⟩

/-- The line unit after a power-on or FULL reset with these levels sampled (R134). -/
def LineBlock.reset (levels : Fin 12 → Bool) : LineBlock :=
  { lines := tabulate fun l => Line.reset (levels l)
    catches := tabulate fun l => Catch.empty (if l = 12 then .armed else .none)
    latches := tabulate fun _ => 0#4
    reportMode := .poll, reportAddr := 0x00#7, sampleCode := 1#2, eventSeq := 0#4 }

/-- The management unit after a power-on reset (R137). -/
def Management.reset : Management :=
  { manager0 := none, manager1 := none, reply := .free, last := none, commit := none }

/-- The supervision unit after a power-on reset (R171). -/
def Supervision.reset : Supervision :=
  { up := .live, silenceCount := 0, restoreCount := 0, lastUp := .live, lastSpur := .disabled, latches := 0#8,
    counters := tabulate fun _ => 0#8, policy := .forward, gap := 0#4, silenceTime := 4#4 }

/-- The part right after the release of RESET with these straps and these levels on the released pins (R2, R5, R12,
R34, R61, R81, R102, R110, R134, R137, R171). -/
def State.powerOn (rate : BitVec 2) (adr : Addr) (pins : BitVec 12) : State :=
  { resetLow := false, rate := rate, adr := adr, upRx := .reset, spurRx := .reset, gapCount := 0, map := .reset,
    run := .closed, merge := .reset, spur := .reset, line := .reset fun l => pins.getLsbD l.val, mgmt := .reset,
    sup := .reset, due := [], choices := 0, pending := [] }

/-- The machine right after reset. The straps and the pin levels are the model's (assumption log 2); every other
value is the manual's. -/
def State.reset : State := State.powerOn Config.resetRate Config.resetAdr Config.resetPins

end Sys2Proof.Machine
end

