-- ==== Sys2Proof/Machine/Operands.lean ====
section
/-! DEFINITION. The forms in which operands reach the part: line units, addresses as digits, the frame and its
check, the kinds, and the frames the part builds (chapter 1). -/

namespace Sys2Proof.Machine

/-! ## Line units -/

/-- The classes of a received unit (R1). -/
inductive UnitClass where
  | data (d : Digit)
  | start
  | stop
  | idle
  | stray
  deriving DecidableEq, Repr

/-- R1: the class of a unit by its mark flag and value. -/
def classOf (u : LineUnit) : UnitClass :=
  if u.mark = false then .data u.value
  else if u.value = 0x0#4 then .start
  else if u.value = 0x8#4 then .stop
  else if u.value = 0xF#4 then .idle
  else .stray

/-- The data unit that carries a digit. -/
def unitData (d : Digit) : LineUnit := { mark := false, value := d }

/-- START (R1). -/
def unitStart : LineUnit := { mark := true, value := 0x0#4 }

/-- END (R1). -/
def unitEnd : LineUnit := { mark := true, value := 0x8#4 }

/-- R14: the units of a frame on the line, START, its digits in order, END. -/
def lineUnits (ds : List Digit) : List LineUnit := unitStart :: ds.map unitData ++ [unitEnd]

/-! ## Addresses as digits (R5) -/

/-- The row of an address, 0 to 7. -/
def rowOf (a : Addr) : Digit := (a.extractLsb' 4 3).setWidth 4

/-- The column of an address. -/
def colOf (a : Addr) : Digit := a.extractLsb' 0 4

/-- The address with this row (its low three bits) and column. -/
def addrOf (row col : Digit) : Addr := row.setWidth 3 ++ col

/-- A row digit above 7h names no address (R18). -/
def badRow (d : Digit) : Bool := 7#4 < d

/-! ## Kinds (R6) -/

/-- The kinds of R6; Ch to Fh are unassigned. -/
inductive Kind where
  | write
  | adjust
  | read
  | reply
  | display
  | pattern
  | poll
  | event
  | mgmt
  | mgmtReply
  | trace
  | breakReport
  | unassigned
  deriving DecidableEq, Repr

/-- R6: the kind of a kind digit. SHOW is `display`. -/
def kindOf (d : Digit) : Kind :=
  match d.toNat with
  | 0 => .write
  | 1 => .adjust
  | 2 => .read
  | 3 => .reply
  | 4 => .display
  | 5 => .pattern
  | 6 => .poll
  | 7 => .event
  | 8 => .mgmt
  | 9 => .mgmtReply
  | 10 => .trace
  | 11 => .breakReport
  | _ => .unassigned

/-! ## Frames (R3, R4) -/

/-- The fields of a well-formed frame whose check verifies; the length digit and the check digits follow from them. -/
structure Frame where
  kind : Digit
  dst : Addr
  src : Addr
  seq : Digit
  payload : List Digit
  deriving DecidableEq, Repr

/-- The sum of the values of digits (R4). -/
def digitSum (ds : List Digit) : Nat := (ds.map BitVec.toNat).sum

/-- R4: the check value of the digits before the check. -/
def checkValue (body : List Digit) : Nat := (256 - digitSum body % 256) % 256

/-- R4: the two check digits, high digit first. -/
def checkDigits (body : List Digit) : List Digit :=
  [BitVec.ofNat 4 (checkValue body / 16), BitVec.ofNat 4 (checkValue body)]

/-- The digits of a frame before its check: header and payload (R3). -/
def Frame.body (f : Frame) : List Digit :=
  [f.kind, rowOf f.dst, colOf f.dst, rowOf f.src, colOf f.src, f.seq, BitVec.ofNat 4 f.payload.length] ++ f.payload

/-- The digits of a frame as it is sent, its check computed by R4. -/
def Frame.digits (f : Frame) : List Digit := f.body ++ checkDigits f.body

/-- R4: the check of a frame's digits verifies when S + 16 × H + L is a multiple of 256. -/
def checkVerifies (ds : List Digit) : Bool :=
  match ds.drop (ds.length - 2) with
  | [h, l] => (digitSum (ds.take (ds.length - 2)) + 16 * h.toNat + l.toNat) % 256 = 0
  | _ => false

/-- What stages 1 and 2 of intake find a completed frame to be (R21, R22). -/
inductive Classified where
  | malformed
  | damaged
  | intact (f : Frame)
  deriving DecidableEq, Repr

/-- Stages 1 and 2 of intake: the structural checks of R21, then the check of R22. -/
def classify (e : Ending) (ds : List Digit) : Classified :=
  if e ≠ .ended then .malformed
  else match ds with
    | kind :: dstRow :: dstCol :: srcRow :: srcCol :: seq :: len :: rest =>
      if rest.length ≠ len.toNat + 2 || badRow dstRow || badRow srcRow then .malformed
      else if checkVerifies ds then
        .intact { kind := kind, dst := addrOf dstRow dstCol, src := addrOf srcRow srcCol, seq := seq,
                  payload := rest.take len.toNat }
      else .damaged
    | _ => .malformed

/-! ## Digits of values -/

/-- The digit of a count that is at most 15. -/
def digitOf (n : Nat) : Digit := BitVec.ofNat 4 n

/-- The high digit of a pattern or a counter (R63). -/
def highDigit (v : BitVec 8) : Digit := v.extractLsb' 4 4

/-- The low digit of a pattern or a counter (R63). -/
def lowDigit (v : BitVec 8) : Digit := v.extractLsb' 0 4

/-- The value of two digits, high digit first (R63). -/
def byteOf (h l : Digit) : BitVec 8 := h ++ l

/-- A pattern or counter as two digits, high digit first (R63). -/
def byteDigits (v : BitVec 8) : List Digit := [highDigit v, lowDigit v]

/-- The digit whose bits 0 to 3 are these. -/
def digitOfBits (b0 b1 b2 b3 : Bool) : Digit := BitVec.ofBool b3 ++ BitVec.ofBool b2 ++ BitVec.ofBool b1 ++ BitVec.ofBool b0

/-- min(a + b, 15), the sum of two counts that stay at 15 (R122, R125). -/
def addUpTo15 (a b : Digit) : Digit := if 15 < a.toNat + b.toNat then 15#4 else a + b

/-- A counter raised by one, staying at 255 (R168). -/
def raiseCount (c : Count) : Count := if c = 255#8 then c else c + 1#8

/-- R16: the upstream state digit. -/
def upDigit (u : UpState) : Digit :=
  match u with
  | .live => 0#4
  | .silent => 1#4

/-- R16: the spur state digit. -/
def spurDigit (s : SpurState) : Digit :=
  match s with
  | .disabled => 0#4
  | .closed => 1#4
  | .opened => 2#4

/-- The column step as a number from −8 to +7 (R17). -/
def stepOf (d : Digit) : Int := d.toInt

/-! ## Frames the part originates (R16) -/

/-- REPLY to a READ (R121). -/
def replyFrame (own : Addr) (read : Frame) (values : List Digit) : Frame :=
  { kind := 0x3#4, dst := read.src, src := own, seq := read.seq, payload := values }

/-- EVENT (R132). -/
def eventFrame (own report : Addr) (seq : Digit) (pairs : List Digit) : Frame :=
  { kind := 0x7#4, dst := report, src := own, seq := seq, payload := pairs }

/-- BREAK (R164). -/
def breakFrame (own report : Addr) (up : UpState) (spur : SpurState) (generation : Digit) : Frame :=
  { kind := 0xB#4, dst := report, src := own, seq := 0#4, payload := [upDigit up, spurDigit spur, generation] }

/-- MGMT-REPLY (R144). -/
def mgmtReplyFrame (own dst : Addr) (seq : Digit) (payload : List Digit) : Frame :=
  { kind := 0x9#4, dst := dst, src := own, seq := seq, payload := payload }

/-- The kind of a held frame, by its first digit. -/
def Held.kind (h : Held) : Kind :=
  match h.digits with
  | d :: _ => kindOf d
  | [] => .unassigned

/-- A received or rewritten frame as a queue holds it, with no tag (R95). -/
def Held.plain (digits : List Digit) : Held := { digits := digits, tag := .none }

end Sys2Proof.Machine
end

