-- ==== Sys2Proof/Machine/Store.lean ====
section
/-! DEFINITION. Addressed stores: the address-map entries and the conversion pages of a bank, as lists of
(address, contents) pairs in one canonical form. An unlisted address reads as the reset contents (R61, R79). -/

namespace Sys2Proof.Machine

/-- What the store holds at an address; `blank` is what an unlisted address reads as. -/
def Store.read {α : Type} (blank : α) : List (Nat × α) → Nat → α
  | [], _ => blank
  | (k, v) :: rest, a => if a = k then v else Store.read blank rest a

/-- Writes one address; writing `blank` removes the pair, so that equal stores are equal lists. -/
def Store.write {α : Type} [DecidableEq α] (blank : α) : List (Nat × α) → Nat → α → List (Nat × α)
  | [], a, v => if v = blank then [] else [(a, v)]
  | (k, w) :: rest, a, v =>
    if a < k then (if v = blank then (k, w) :: rest else (a, v) :: (k, w) :: rest)
    else if a = k then (if v = blank then rest else (k, v) :: rest)
    else (k, w) :: Store.write blank rest a v

/-- The canonical form: every address is at least `low` and below `bound`, addresses strictly rise, and no pair holds
`blank`. -/
def Store.wfFrom {α : Type} [DecidableEq α] (blank : α) (bound : Nat) : Nat → List (Nat × α) → Bool
  | _, [] => true
  | low, (k, v) :: rest => low ≤ k && k < bound && v ≠ blank && Store.wfFrom blank bound (k + 1) rest

/-- The canonical form of a store with addresses below `bound`. -/
def Store.wf {α : Type} [DecidableEq α] (blank : α) (bound : Nat) (l : List (Nat × α)) : Bool :=
  Store.wfFrom blank bound 0 l

/-- The entry a bank holds for an address (R37). -/
def Bank.entry (b : Bank) (a : Addr) : Entry := Store.read Entry.zero b.entries a.toNat

/-- Stores an entry for an address. -/
def Bank.setEntry (b : Bank) (a : Addr) (e : Entry) : Bank :=
  { b with entries := Store.write Entry.zero b.entries a.toNat e }

/-- Where pattern `i` of page `p` stands among a bank's 256 pattern entries (R63). -/
def patternKey (p : Fin 8) (i : Nat) : Nat := 32 * p.val + i

/-- The pattern entry at index `i` of page `p` (R63). -/
def Bank.pattern (b : Bank) (p : Fin 8) (i : Nat) : Pattern := Store.read 0#8 b.pages (patternKey p i)

/-- Stores one pattern entry. -/
def Bank.setPattern (b : Bank) (p : Fin 8) (i : Nat) (v : Pattern) : Bank :=
  { b with pages := Store.write 0#8 b.pages (patternKey p i) v }

/-- The valid flag of a page (R66). -/
def Bank.isValid (b : Bank) (p : Fin 8) : Bool := b.valid.getLsbD p.val

/-- Sets the valid flag of a page (R64). -/
def Bank.setValid (b : Bank) (p : Fin 8) : Bank := { b with valid := b.valid ||| (1#8 <<< p.val) }

/-- Both stores of a bank are in canonical form. -/
def Bank.wf (b : Bank) : Bool := Store.wf Entry.zero 128 b.entries && Store.wf 0#8 256 b.pages

/-- The active bank (R37). -/
def MapStore.activeBank (m : MapStore) : Bank :=
  match m.active with
  | .a => m.bankA
  | .b => m.bankB

/-- The staging bank (R37). -/
def MapStore.stagingBank (m : MapStore) : Bank :=
  match m.active with
  | .a => m.bankB
  | .b => m.bankA

/-- Replaces the staging bank. -/
def MapStore.setStaging (m : MapStore) (b : Bank) : MapStore :=
  match m.active with
  | .a => { m with bankB := b }
  | .b => { m with bankA := b }

/-- The bank a bank argument names by role: 0h active, 1h staging (R37). -/
def MapStore.bankOf (m : MapStore) (staging : Bool) : Bank := if staging then m.stagingBank else m.activeBank

/-- COPY ACTIVE (R41): the staging bank becomes a copy of the active bank, with its pages and flags. -/
def MapStore.copyActive (m : MapStore) : MapStore := m.setStaging m.activeBank

/-- The exchange of roles and the rise of the generation number (R40). -/
def MapStore.exchange (m : MapStore) : MapStore :=
  { m with active := (match m.active with | .a => .b | .b => .a), generation := m.generation + 1#4 }

end Sys2Proof.Machine
end

