-- ==== Sys2Proof/Machine/Ops.lean ====
section
/-! DEFINITION. The shared operations: the own address, the replacement of one block's state, the claims on the
five frame stores, the two arbiters and the aborts (chapter 6, section 1.8). -/

namespace Sys2Proof.Machine

/-! ## The own address (R5) -/

/-- Whether the part has an own address (R5). -/
def State.addressed (s : State) : Bool := s.adr ≠ Config.broadcast

/-- The own address; none in unaddressed mode (R5). -/
def State.own (s : State) : Option Addr := if s.addressed then some s.adr else none

/-! ## One block replaced, every other block kept -/

/-- Replaces the map store. -/
def State.setMap (s : State) (x : MapStore) : State := { s with map := x }

/-- Replaces the run record. -/
def State.setRun (s : State) (x : RunRecord) : State := { s with run := x }

/-- Replaces the merge unit. -/
def State.setMerge (s : State) (x : Merge) : State := { s with merge := x }

/-- Replaces the spur unit. -/
def State.setSpur (s : State) (x : SpurUnit) : State := { s with spur := x }

/-- Replaces the line unit. -/
def State.setLines (s : State) (x : LineBlock) : State := { s with line := x }

/-- Replaces the management unit. -/
def State.setMgmt (s : State) (x : Management) : State := { s with mgmt := x }

/-- Replaces the supervision unit. -/
def State.setSup (s : State) (x : Supervision) : State := { s with sup := x }

/-- Replaces the receiver of an input. -/
def State.setRx (s : State) (p : Port) (x : Receiver) : State :=
  match p with
  | .upstream => { s with upRx := x }
  | .spur => { s with spurRx := x }

/-- The receiver of an input. -/
def State.rx (s : State) (p : Port) : Receiver :=
  match p with
  | .upstream => s.upRx
  | .spur => s.spurRx

/-- Replaces the upstream gap count. -/
def State.setGapCount (s : State) (n : Nat) : State := { s with gapCount := n }

/-- Replaces the list of events that are due. -/
def State.setDue (s : State) (x : List Due) : State := { s with due := x }

/-- Adds an event that has come about behind those already due. -/
def State.addDue (s : State) (d : Due) : State := s.setDue (s.due ++ [d])

/-- Counts one more free value as consumed. -/
def State.consume (s : State) : State := { s with choices := s.choices + 1 }

/-- The next free value (assumption log 3). -/
def State.nextFree (s : State) : Nat := Config.free s.choices

/-! ## The downstream arbiter (R96 to R99) -/

/-- R98: the queue of a position of the grant cycle. -/
def cycleSource (i : Fin 4) : Source :=
  match i with
  | 0 => .transit
  | 1 => .spurReturn
  | 2 => .transit
  | 3 => .insertion

/-- The frames a store holds, oldest first (R92); the reply slot's frame where it has one. -/
def State.framesOf (s : State) (src : Source) : List Held :=
  match src with
  | .transit => s.merge.transit
  | .spurReturn => s.merge.spurReturn
  | .insertion => s.merge.insertion
  | .spurOut => s.spur.queue
  | .reply =>
    match s.mgmt.reply with
    | .full ds => [Held.plain ds]
    | .sending ds => [Held.plain ds]
    | .free => []
    | .reserved => []

/-- R98: the first position, from the pointer on and wrapping, whose queue holds a frame. -/
def State.cycleWinner (s : State) : Option (Fin 4) :=
  [s.merge.pointer, s.merge.pointer + 1, s.merge.pointer + 2, s.merge.pointer + 3].find?
    fun i => !(s.framesOf (cycleSource i)).isEmpty

/-- R96 to R99: the grant to a READY downstream transmitter. The reply slot goes first and leaves the pointer; then
the grant cycle. -/
def State.grantDown (s : State) : State :=
  if s.merge.tx = .ready then
    match s.mgmt.reply with
    | .full ds =>
      (s.setMerge { s.merge with tx := .send .reply 0 }).setMgmt { s.mgmt with reply := .sending ds }
    | _ =>
      match s.cycleWinner with
      | some i => s.setMerge { s.merge with tx := .send (cycleSource i) 0, pointer := i + 1 }
      | none => s
  else s

/-- R104: the grant to a READY spur transmitter while the spur is CLOSED or OPEN. -/
def State.grantSpur (s : State) : State :=
  if s.spur.tx = .ready && s.spur.state ≠ .disabled && !s.spur.queue.isEmpty then
    s.setSpur { s.spur with tx := .send .spurOut 0 }
  else s

/-! ## Claims and entries (R28, R29, R94) -/

/-- The queues that intake claims (R28). -/
inductive Target where
  | transit
  | spurOut
  | spurReturn
  deriving DecidableEq, Repr

/-- How many frames a queue holds. -/
def State.occupancy (s : State) (t : Target) : Nat :=
  match t with
  | .transit => s.merge.transit.length
  | .spurOut => s.spur.queue.length
  | .spurReturn => s.merge.spurReturn.length

/-- R28: the capacity of a queue. -/
def Target.capacity (t : Target) : Nat :=
  match t with
  | .transit => Config.transitCapacity
  | .spurOut => Config.spurOutCapacity
  | .spurReturn => Config.spurReturnCapacity

/-- R28, R29: a claim for `n` slots is accepted when the queue has `n` free. -/
def State.claim (s : State) (t : Target) (n : Nat) : Bool := s.occupancy t + n ≤ t.capacity

/-- R28, R29: frames enter at the tail by one claim, and the arbiter checks for a grant (R96, R104). -/
def State.enter (s : State) (t : Target) (hs : List Held) : State :=
  match t with
  | .transit => (s.setMerge { s.merge with transit := s.merge.transit ++ hs }).grantDown
  | .spurReturn => (s.setMerge { s.merge with spurReturn := s.merge.spurReturn ++ hs }).grantDown
  | .spurOut => (s.setSpur { s.spur with queue := s.spur.queue ++ hs }).grantSpur

/-- How many frames of a kind the insertion queue holds (R94). -/
def State.inserted (s : State) (k : Kind) : Nat := (s.merge.insertion.filter fun h => h.kind = k).length

/-- A frame enters the insertion queue at the tail, and the arbiter checks for a grant (R94, R96). -/
def State.insert (s : State) (h : Held) : State :=
  (s.setMerge { s.merge with insertion := s.merge.insertion ++ [h] }).grantDown

/-- The reply slot becomes FULL, and the arbiter checks for a grant (R96, R144). -/
def State.fillReply (s : State) (digits : List Digit) : State :=
  (s.setMgmt { s.mgmt with reply := .full digits }).grantDown

/-! ## Transmitters (R13 to R15) -/

/-- R15: an abort stops a frame in SEND; in FILL and READY it leaves the transmitter. -/
def Tx.abort (t : Tx) : Tx :=
  match t with
  | .send _ _ => .fill 0
  | .fill n => .fill n
  | .ready => .ready

/-- R12.2: a receiver in ASSEMBLE abandons its frame and skips; another stays where it is. -/
def Receiver.abandon (r : Receiver) : Receiver :=
  if r.state = .assemble then { state := .skip, buffer := [] } else r

/-! ## Running and settling -/

/-- A command that always goes on. While RESET is held low the part does nothing else (assumption log 5). -/
def State.answer (s : State) (f : State → State) : Host.Outcome State Fault Refusal :=
  .next (if s.resetLow then s else f s)

end Sys2Proof.Machine
end

