-- ==== Sys2Proof/Machine/MapStore.lean ====
section
/-! DEFINITION. The address map: the stored form of an entry, the lookup and its dispositions, and validation
(chapter 3). -/

namespace Sys2Proof.Machine

/-! ## The stored form (R43) -/

/-- R17: the action of an action digit. -/
def actionOf (d : Digit) : Action :=
  match d.toNat with
  | 0 => .pass
  | 1 => .remap
  | 2 => .divert
  | 3 => .mirror
  | _ => .absorb

/-- R17: the digit of an action. -/
def actionDigit (a : Action) : Digit :=
  match a with
  | .pass => 0#4
  | .remap => 1#4
  | .divert => 2#4
  | .mirror => 3#4
  | .absorb => 4#4

/-- R17: a load is refused INVALID for an action above 4h, a kind selector above 3h or a row modifier above 7h. -/
def badEntry (e : EntryDigits) : Bool := 4#4 < e.action || 3#4 < e.selector || 7#4 < e.rowModifier

/-- R43: the stored form of loaded digits. -/
def storedForm (e : EntryDigits) : Entry :=
  let translate := e.options.getLsbD 0
  let base : Entry :=
    { Entry.zero with
      action := actionOf e.action, selector := e.selector.setWidth 2, translate := translate,
      absorbRuns := e.options.getLsbD 1, page := if translate then e.page else 0#4 }
  match actionOf e.action with
  | .pass => base
  | .remap =>
    { base with
      rowModifier := e.rowModifier.setWidth 3, columnStep := e.columnStep, spill := e.options.getLsbD 2,
      fallbackAbsorb := e.options.getLsbD 2 && e.options.getLsbD 3 }
  | .divert => { base with fallbackAbsorb := e.options.getLsbD 3 }
  | .mirror => base
  | .absorb => { Entry.zero with action := .absorb }

/-- R45: the six digits of a stored entry, in the order of R17. -/
def Entry.toDigits (e : Entry) : List Digit :=
  [actionDigit e.action, e.selector.setWidth 4, e.rowModifier.setWidth 4, e.columnStep,
   digitOfBits e.translate e.absorbRuns e.spill e.fallbackAbsorb, e.page]

/-- R42: the page an entry names, whatever the indexing mode. -/
def Entry.pageNumber (e : Entry) : Fin 8 := ⟨e.page.toNat % 8, by omega⟩

/-- R42: whether an entry's page digit selects overlay mode. -/
def Entry.overlay (e : Entry) : Bool := 8 ≤ e.page.toNat

/-! ## Loads (R44, R64) -/

/-- R44: LOAD ENTRY. -/
def MapStore.loadEntry (m : MapStore) (a : Addr) (e : Entry) : MapStore := m.setStaging (m.stagingBank.setEntry a e)

/-- R44: LOAD BLOCK, from the start address to the last column of its row, both included. -/
def MapStore.loadBlock (m : MapStore) (a : Addr) (last : Digit) (e : Entry) : MapStore :=
  m.setStaging ((List.range' (colOf a).toNat (last.toNat + 1 - (colOf a).toNat)).foldl
    (fun b col => b.setEntry (addrOf (rowOf a) (digitOf col)) e) m.stagingBank)

/-- R64: consecutive patterns from an index on. -/
def Bank.putPatterns (b : Bank) (p : Fin 8) : Nat → List Pattern → Bank
  | _, [] => b
  | i, v :: rest => Bank.putPatterns (b.setPattern p i v) p (i + 1) rest

/-- R64: LOAD PATTERNS writes the patterns and sets the page's valid flag. -/
def MapStore.loadPatterns (m : MapStore) (p : Fin 8) (i : Nat) (vs : List Pattern) : MapStore :=
  m.setStaging ((m.stagingBank.putPatterns p i vs).setValid p)

/-- R65: `k` consecutive pattern entries from an index on, ascending. -/
def Bank.readPatterns (b : Bank) (p : Fin 8) (i k : Nat) : List Pattern := (List.range' i k).map (b.pattern p)

/-! ## Lookup (R46 to R53) -/

/-- R42: whether a kind selector names a kind. -/
def selects (selector : BitVec 2) (k : Kind) : Bool :=
  match selector.toNat with
  | 0 => k ≠ .unassigned
  | 1 => k = .write || k = .adjust || k = .read
  | 2 => k = .display || k = .pattern
  | _ => k = .write || k = .adjust || k = .read || k = .display || k = .pattern

/-- One copy of a disposition: its queue, the destination to be written, and whether it is to be translated. -/
structure Copy where
  target : Target
  dst : Addr
  translate : Bool
  deriving DecidableEq, Repr

/-- What the map store answers a lookup (section 3.4). -/
inductive Disposition where
  | absorbed
  | copies (cs : List Copy)
  deriving DecidableEq, Repr

/-- R48: the new row of a REMAP, as a digit. -/
def Entry.newRow (e : Entry) (dst : Addr) : Digit := rowOf dst ^^^ e.rowModifier.setWidth 4

/-- R48: the column sum of a REMAP, from −8 to +22. -/
def Entry.columnSum (e : Entry) (dst : Addr) : Int := (colOf dst).toNat + stepOf e.columnStep

/-- R48: whether the column sum stays in the row. -/
def Entry.inRange (e : Entry) (dst : Addr) : Bool := 0 ≤ e.columnSum dst && e.columnSum dst ≤ 15

/-- R48, R49: the new row with the column sum modulo 16, the in-range target or the wrapped destination. -/
def Entry.target (e : Entry) (dst : Addr) : Addr := addrOf (e.newRow dst) (colOf dst + e.columnStep)

/-- R53: whether a copy of a frame whose kind the selector names is to be translated. -/
def Entry.translates (e : Entry) (k : Kind) : Bool := e.translate && k = .display

/-- R46 to R52: the disposition of a frame of this kind and incoming destination. A DISABLED spur, which the law of
R60 keeps from mattering, is answered as an OPEN one (assumption log 6). -/
def Entry.disposition (e : Entry) (spur : SpurState) (k : Kind) (dst : Addr) : Disposition :=
  if !selects e.selector k then .copies [{ target := .transit, dst := dst, translate := false }]
  else
    let t := e.translates k
    match e.action with
    | .pass => .copies [{ target := .transit, dst := dst, translate := t }]
    | .remap =>
      if e.inRange dst then .copies [{ target := .transit, dst := e.target dst, translate := t }]
      else if e.target dst = Config.broadcast then .absorbed
      else if !e.spill then .absorbed
      else if spur = .closed then .copies [{ target := .spurOut, dst := e.target dst, translate := t }]
      else if e.fallbackAbsorb then .absorbed
      else .copies [{ target := .transit, dst := e.target dst, translate := t }]
    | .divert =>
      if spur = .closed then .copies [{ target := .spurOut, dst := dst, translate := t }]
      else if e.fallbackAbsorb then .absorbed
      else .copies [{ target := .transit, dst := dst, translate := t }]
    | .mirror =>
      if spur = .closed then
        .copies [{ target := .transit, dst := dst, translate := t }, { target := .spurOut, dst := dst, translate := t }]
      else .copies [{ target := .transit, dst := dst, translate := t }]
    | .absorb => .absorbed

/-! ## Validation (R57 to R59) -/

/-- Whether an entry uses the spur (R57, check 3). -/
def Entry.usesSpur (e : Entry) : Bool := e.action = .divert || e.action = .mirror || (e.action = .remap && e.spill)

/-- R57: the reason digit of the first check that an entry fails, in the order of the table. -/
def Bank.entryFault (b : Bank) (own : Addr) (spur : SpurState) (a : Addr) : Option Digit :=
  let e := b.entry a
  if a = Config.broadcast && e.action = .remap then some 4#4
  else if e.action = .remap && e.inRange a && (e.target a = own || e.target a = Config.broadcast) then some 1#4
  else if spur = .disabled && e.usesSpur then some 2#4
  else if e.translate && !b.isValid e.pageNumber then some 3#4
  else none

/-- R57: the addresses in ascending order, the own address skipped. -/
def examined (own : Addr) : List Addr := ((List.range 128).map (BitVec.ofNat 7)).filter fun a => a ≠ own

/-- R57, R58: the first failure of a bank under all four checks, as reason and address. -/
def Bank.firstFault (b : Bank) (own : Addr) (spur : SpurState) : Option (Digit × Addr) :=
  (examined own).findSome? fun a => (b.entryFault own spur a).map fun r => (r, a)

/-- R59: the first entry that uses the spur, as reason 2h and address. -/
def Bank.firstSpurUse (b : Bank) (own : Addr) : Option (Digit × Addr) :=
  (examined own).findSome? fun a => if (b.entry a).usesSpur then some (2#4, a) else none

end Sys2Proof.Machine
end

