-- ==== Sys2Proof/Machine/Conversion.lean ====
section
/-! DEFINITION. The conversion unit: SHOW into PATTERN (chapter 4). -/

namespace Sys2Proof.Machine

/-- R69, R70: the pattern of a symbol under the emphasis bit, in normal or overlay mode. -/
def Bank.symbolPattern (b : Bank) (p : Fin 8) (overlay emphasis : Bool) (sym : Digit) : Pattern :=
  if overlay then
    let v := b.pattern p sym.toNat
    if emphasis then v ||| 0x80#8 else v &&& 0x7F#8
  else b.pattern p ((if emphasis then 16 else 0) + sym.toNat)

/-- R71: a PATTERN frame with this attribute digit and these patterns, with the header of the SHOW copy. -/
def patternFrame (showCopy : Frame) (attr : Digit) (ps : List Pattern) : Frame :=
  { showCopy with kind := 0x5#4, payload := attr :: ps.flatMap byteDigits }

/-- R72: the attribute digit of the first frame of two, C cleared. -/
def clearContinuation (a : Digit) : Digit := a &&& 0xD#4

/-- R72: the attribute digit of the second frame of two, C set. -/
def setContinuation (a : Digit) : Digit := a ||| 0x2#4

/-- R68, R71 to R74: the PATTERN frames built from a SHOW copy under an entry's page digit. A SHOW of length 0 is never
handed to the conversion unit (R75). -/
def Bank.convert (b : Bank) (e : Entry) (showCopy : Frame) : List Frame :=
  match showCopy.payload with
  | [] => [showCopy]
  | attr :: symbols =>
    let ps := symbols.map (b.symbolPattern e.pageNumber e.overlay (attr.getLsbD 0))
    if symbols.length ≤ 7 then [patternFrame showCopy attr ps]
    else [patternFrame showCopy (clearContinuation attr) (ps.take 7),
          patternFrame showCopy (setContinuation attr) (ps.drop 7)]

end Sys2Proof.Machine
end

