-- ==== Sys2Proof/Machine/Lines.lean ====
section
/-! DEFINITION. The line unit: catch states, EVENT frames, POLL records, sampling, the local cells and SET LINE
(chapter 7). -/

namespace Sys2Proof.Machine

/-! ## Catch states (R122 to R126) -/

/-- The number of the fault pseudo-line Ch (R128). -/
def pseudoLine : Fin 13 := 12

/-- A line with a pin among all thirteen. -/
def pinLine (l : Fin 12) : Fin 13 := ⟨l.val, by omega⟩

/-- The retire field of a line; the pseudo-line has none, which is as if it were clear (R113, R128). -/
def LineBlock.retire (b : LineBlock) (l : Fin 13) : Bool := if h : l.val < 12 then b.lines[l.val].retire else false

/-- Whether a line catches: the pseudo-line always, another line in CATCH mode (R113, R128). -/
def LineBlock.catches_ (b : LineBlock) (l : Fin 13) : Bool :=
  if h : l.val < 12 then b.lines[l.val].mode = .catching else true

/-- The catch record of a line. -/
def LineBlock.catchOf (b : LineBlock) (l : Fin 13) : Catch := b.catches[l]

/-- Replaces the catch record of a line. -/
def LineBlock.setCatch (b : LineBlock) (l : Fin 13) (k : Catch) : LineBlock :=
  { b with catches := b.catches.set l.val k }

/-- Clears the retire field of a line. -/
def LineBlock.clearRetire (b : LineBlock) (l : Fin 13) : LineBlock :=
  { b with lines := tabulate fun i => if i.val = l.val then { b.lines[i] with retire := false } else b.lines[i] }

/-- R122: what a qualified edge does to a catch record. -/
def Catch.onEdge (k : Catch) (retire : Bool) : Catch :=
  match k.state with
  | .none => k
  | .armed => { state := .caught, c := 1#4, n := 0#4 }
  | .caught => { k with c := addUpTo15 k.c 1#4 }
  | .reporting => if retire then k else { k with n := addUpTo15 k.n 1#4 }

/-- R123: a CAUGHT line's record is placed in a frame. -/
def Catch.onRecord (k : Catch) : Catch := { k with state := .reporting, n := 0#4 }

/-- R124: the frame that carries the line's record departs. -/
def Catch.onDeparture (k : Catch) : Catch :=
  if k.n = 0#4 then Catch.empty .armed else { state := .caught, c := k.n, n := 0#4 }

/-- R125: the frame that carries the line's record is discarded. -/
def Catch.onDiscard (k : Catch) : Catch := { state := .caught, c := addUpTo15 k.c k.n, n := 0#4 }

/-- R126: a line whose retire is set leaves REPORTING. -/
def Catch.onRetired (catching : Bool) : Catch := Catch.empty (if catching then .armed else .none)

/-- R122: a qualified edge on a line. -/
def LineBlock.edge (b : LineBlock) (l : Fin 13) : LineBlock := b.setCatch l ((b.catchOf l).onEdge (b.retire l))

/-- R124 and R126: the frame that carries a line's record departs. -/
def LineBlock.departure (b : LineBlock) (l : Fin 13) : LineBlock :=
  if b.retire l then (b.setCatch l (Catch.onRetired (b.catches_ l))).clearRetire l
  else b.setCatch l (b.catchOf l).onDeparture

/-- R125 and R126: the frame that carries a line's record is discarded. -/
def LineBlock.discard (b : LineBlock) (l : Fin 13) : LineBlock :=
  if b.retire l then (b.setCatch l (Catch.onRetired (b.catches_ l))).clearRetire l
  else b.setCatch l (b.catchOf l).onDiscard

/-- R123: records for these lines are placed in a frame. -/
def LineBlock.record (b : LineBlock) (ls : List (Fin 13)) : LineBlock :=
  ls.foldl (fun b l => b.setCatch l (b.catchOf l).onRecord) b

/-- The CAUGHT lines in ascending order, the pseudo-line last (R130, R132). -/
def LineBlock.caughtLines (b : LineBlock) : List (Fin 13) :=
  (List.finRange 13).filter fun l => (b.catchOf l).state = .caught

/-- The line digit of a record: 0h to Bh, Ch for the pseudo-line (R16). -/
def lineDigit (l : Fin 13) : Digit := digitOf l.val

/-! ## EVENT frames (R132) -/

/-- R132: the conditions of an EVENT build. -/
def State.eventDue (s : State) : Bool :=
  s.line.reportMode = .event && s.addressed && s.line.reportAddr ≠ s.adr && !s.line.caughtLines.isEmpty
    && s.inserted .event = 0

/-- R132: the lines that an EVENT built now would report. -/
def LineBlock.eventLines (b : LineBlock) : List (Fin 13) := b.caughtLines.take 7

/-- R132: the EVENT frame with its report tag. -/
def State.eventHeld (s : State) : Held :=
  { digits := (eventFrame s.adr s.line.reportAddr s.line.eventSeq
      (s.line.eventLines.flatMap fun l => [lineDigit l, (s.line.catchOf l).c])).digits
    tag := .report s.line.eventLines }

/-- R132: an EVENT build. -/
def State.buildEvent (s : State) : State :=
  (s.setLines { s.line.record s.line.eventLines with eventSeq := s.line.eventSeq + 1#4 }).insert s.eventHeld

/-- R132: the examination at a cause for an EVENT build. -/
def State.examineEvent (s : State) : State := if s.eventDue then s.buildEvent else s

/-! ## Moves of lines that may cause an EVENT build -/

/-- Moves the lines of one notification, or of one edge. -/
def State.moveGroup (move : LineBlock → Fin 13 → LineBlock) (ls : List (Fin 13)) (s : State) : State :=
  s.setLines (ls.foldl move s.line)

/-- Whether one of these lines was not CAUGHT before and is CAUGHT after (R132, cause 1). -/
def becameCaught (ls : List (Fin 13)) (before after : LineBlock) : Bool :=
  ls.any fun l => (before.catchOf l).state ≠ .caught && (after.catchOf l).state = .caught

/-- Lines that move together: that of one edge, or those that one frame's report tag names (assumption log 15), with whether that
frame is an EVENT that has gone (R132, cause 2). -/
structure LineGroup where
  lines : List (Fin 13)
  eventGone : Bool
  deriving DecidableEq, Repr

/-- The group of one edge. -/
def LineGroup.ofEdge (l : Fin 13) : LineGroup := { lines := [l], eventGone := false }

/-- Groups whose conditions are examined as one. -/
def LineGroup.join (gs : List LineGroup) : LineGroup :=
  { lines := gs.flatMap LineGroup.lines, eventGone := gs.any LineGroup.eventGone }

/-- Whether a group, which has moved, is a cause for an EVENT build (R132, causes 1 and 2). -/
def LineGroup.isCause (g : LineGroup) (before after : LineBlock) : Bool :=
  g.eventGone || becameCaught g.lines before after

/-- Moves the groups in order and examines the conditions of R132 after each group that is a cause. -/
def State.moveEager (move : LineBlock → Fin 13 → LineBlock) : List LineGroup → State → State
  | [], s => s
  | g :: rest, s =>
    let t := s.moveGroup move g.lines
    State.moveEager move rest (if g.isCause s.line t.line then t.examineEvent else t)

/-- Moves the groups that one step moves. Where several groups move in report mode EVENT, the manual leaves open how
many of them have moved when the line unit examines R132: a free value decides (assumption log 3). -/
def State.moveLines (move : LineBlock → Fin 13 → LineBlock) (groups : List LineGroup) (s : State) : State :=
  if s.line.reportMode = .event && 1 < groups.length then
    s.consume.moveEager move (LineGroup.join (groups.take s.nextFree) :: groups.drop s.nextFree)
  else s.moveEager move groups

/-- R128: an edge of the fault pseudo-line. -/
def State.pseudoEdge (s : State) : State := s.moveLines LineBlock.edge [.ofEdge pseudoLine]

/-! ## POLL records (R129, R130) -/

/-- R129: a legal POLL has a payload of 0, 4, 8 or 12 digits (R16). -/
def legalPoll (f : Frame) : Bool := [0, 4, 8, 12].contains f.payload.length

/-- R130: the lines recorded in a POLL copy, ascending, as far as there is room. -/
def State.pollLines (s : State) (f : Frame) : List (Fin 13) :=
  s.line.caughtLines.take ((15 - f.payload.length) / 4)

/-- R130: the POLL copy with the part's records appended. -/
def State.pollWithRecords (s : State) (f : Frame) : Frame :=
  { f with payload := f.payload ++ (s.pollLines f).flatMap fun l =>
      [rowOf s.adr, colOf s.adr, lineDigit l, (s.line.catchOf l).c] }

/-! ## Sampling and qualification (R114 to R117) -/

/-- R114: the latch bit of a line. -/
def LineBlock.latchBit (b : LineBlock) (l : Fin 12) : Bool :=
  (b.latches[l.val / 4]'(by omega)).getLsbD (l.val % 4)

/-- R114: whether the part drives a line's pin low. -/
def LineBlock.driven (b : LineBlock) (l : Fin 12) : Bool := b.lines[l].mode = .output && b.latchBit l

/-- The level of a line's pin: low where the part drives it, else as the panel gives it (R113, R114). -/
def LineBlock.pinLevel (b : LineBlock) (pins : BitVec 12) (l : Fin 12) : Bool := pins.getLsbD l.val && !b.driven l

/-- R115 and R116: one line's record after a sample that sees `level`. -/
def Line.sample (x : Line) (level : Bool) : Line :=
  if x.mode = .input || x.mode = .catching then
    if level = x.qualified then { x with sampled := level, run := 0#4 }
    else if x.hold.toNat ≤ x.run.toNat + 1 then { x with sampled := level, qualified := level, run := 0#4 }
    else { x with sampled := level, run := x.run + 1#4 }
  else { x with sampled := level }

/-- R117: whether the change from one qualified level to another is in the selected direction. -/
def Edge.selects (e : Edge) (before after : Bool) : Bool :=
  match e with
  | .falling => before && !after
  | .rising => !before && after
  | .both => before != after

/-- R117: whether a sample gives a line a qualified edge. -/
def Line.edgeAt (x : Line) (level : Bool) : Bool :=
  x.mode = .catching && x.edge.selects x.qualified (x.sample level).qualified

/-- R115: all twelve lines sampled. -/
def LineBlock.sampleAll (b : LineBlock) (pins : BitVec 12) : LineBlock :=
  { b with lines := tabulate fun l => b.lines[l].sample (b.pinLevel pins l) }

/-- The lines to which a sample gives a qualified edge, listed ascending; `State.handEdges` says in which order they move. -/
def LineBlock.edgesAt (b : LineBlock) (pins : BitVec 12) : List (Fin 13) :=
  ((List.finRange 12).filter fun l => b.lines[l].edgeAt (b.pinLevel pins l)).map pinLine

/-- The `n`-th order of a list; every order is the `n`-th for some `n`. -/
def anyOrder {α : Type} : Nat → List α → List α
  | _, [] => []
  | n, x :: rest =>
    let tail := anyOrder (n / (rest.length + 1)) rest
    tail.take (n % (rest.length + 1)) ++ x :: tail.drop (n % (rest.length + 1))

/-- R117, R122: hands each line its edge. Where several lines have an edge at one sample, the manual gives no order in which they
move, and in report mode EVENT the order could show: there a free value decides (assumption log 3). -/
def State.handEdges (s : State) (ls : List (Fin 13)) : State :=
  if s.line.reportMode = .event && 1 < ls.length then
    s.consume.moveLines LineBlock.edge ((anyOrder s.nextFree ls).map .ofEdge)
  else s.moveLines LineBlock.edge (ls.map .ofEdge)

/-- R115 to R117: a sample time. -/
def State.sampleLines (s : State) (pins : BitVec 12) : State :=
  (s.setLines (s.line.sampleAll pins)).handEdges (s.line.edgesAt pins)

/-! ## The local cells (R118 to R121) -/

/-- The classes of cells of R118. -/
inductive CellClass where
  | latch (i : Fin 3)
  | level (i : Fin 3)
  | pendingFlags (i : Fin 3)
  | faultSummary
  | absent
  deriving DecidableEq, Repr

/-- R118: the class of a cell number. -/
def cellClass (c : Digit) : CellClass :=
  match c.toNat with
  | 0 => .latch 0
  | 1 => .latch 1
  | 2 => .latch 2
  | 4 => .level 0
  | 5 => .level 1
  | 6 => .level 2
  | 8 => .pendingFlags 0
  | 9 => .pendingFlags 1
  | 10 => .pendingFlags 2
  | 12 => .faultSummary
  | _ => .absent

/-- The line of bit `j` of cell `i` of a group of three (R114, R118). -/
def cellLine (i : Fin 3) (j : Fin 4) : Fin 12 := ⟨4 * i.val + j.val, by omega⟩

/-- The digit whose bit j is given for line 4 × i + j. -/
def cellDigit (i : Fin 3) (f : Fin 12 → Bool) : Digit :=
  digitOfBits (f (cellLine i 0)) (f (cellLine i 1)) (f (cellLine i 2)) (f (cellLine i 3))

/-- R118, cells 4h to 6h: what a line shows. -/
def LineBlock.levelShown (b : LineBlock) (l : Fin 12) : Bool :=
  match b.lines[l].mode with
  | .input => b.lines[l].qualified
  | .catching => b.lines[l].qualified
  | .output => b.latchBit l
  | .disabled => false

/-- R118, cells 8h to Ah: a line's pending flag. -/
def LineBlock.pendingFlag (b : LineBlock) (l : Fin 12) : Bool :=
  b.lines[l].mode = .catching && (b.catchOf (pinLine l)).state ≠ .armed

/-- R118, cell Ch: the fault summary. -/
def State.faultSummary (s : State) : Digit :=
  digitOfBits (s.sup.latches ≠ 0#8) (s.spur.state = .opened) (s.sup.up = .silent)
    (s.mgmt.manager0.isSome || s.mgmt.manager1.isSome)

/-- R118: a cell's content when it is read. -/
def State.cell (s : State) (c : Digit) : Digit :=
  match cellClass c with
  | .latch i => s.line.latches[i]
  | .level i => cellDigit i s.line.levelShown
  | .pendingFlags i => cellDigit i s.line.pendingFlag
  | .faultSummary => s.faultSummary
  | .absent => 0#4

/-- Whether a WRITE or ADJUST may change a cell (R118). -/
def cellWritable (c : Digit) : Bool := c.toNat ≤ 2

/-- Whether a cell is absent (R118). -/
def cellAbsent (c : Digit) : Bool := cellClass c = .absent

/-- R118: one WRITE or ADJUST digit applied to its cell; a digit for a cell that is not a latch is discarded. -/
def LineBlock.putCell (b : LineBlock) (adjust : Bool) (c v : Digit) : LineBlock :=
  match cellClass c with
  | .latch i => { b with latches := b.latches.set i.val (if adjust then b.latches[i] ^^^ v else v) }
  | _ => b

/-- R118: the digits applied to cells c, c + 1, …, wrapping from Fh to 0h. -/
def LineBlock.putCells (b : LineBlock) (adjust : Bool) : Digit → List Digit → LineBlock
  | _, [] => b
  | c, v :: rest => LineBlock.putCells (b.putCell adjust c v) adjust (c + 1#4) rest

/-- Whether one of the `n` cells from `c` on is one that `p` names. -/
def anyCell (p : Digit → Bool) : Digit → Nat → Bool
  | _, 0 => false
  | c, n + 1 => p c || anyCell p (c + 1#4) n

/-- R120: the values of `k` cells from `c` on, each masked while masks last. -/
def State.readCells (s : State) : Digit → Nat → List Digit → List Digit
  | _, 0, _ => []
  | c, n + 1, [] => s.cell c :: s.readCells (c + 1#4) n []
  | c, n + 1, m :: ms => (s.cell c &&& m) :: s.readCells (c + 1#4) n ms

/-! ## SET LINE (R133) -/

/-- R133: the retire field and the catch record after SET LINE. -/
def Catch.onSetLine (k : Catch) (oldMode newMode : LineMode) (retire : Bool) : Bool × Catch :=
  match k.state with
  | .none => if newMode = .catching then (retire, Catch.empty .armed) else (retire, k)
  | .armed => if newMode = .catching then (retire, k) else (retire, Catch.empty .none)
  | .caught => if newMode = .catching then (retire, k) else (retire, Catch.empty .none)
  | .reporting =>
    if retire = false && oldMode = .catching && newMode ≠ .catching then (true, { k with n := 0#4 }) else (retire, k)

/-- R133: SET LINE on one line. -/
def LineBlock.configure (b : LineBlock) (l : Fin 12) (mode : LineMode) (edge : Edge) (hold : Digit) : LineBlock :=
  let x := b.lines[l]
  let r := (b.catchOf (pinLine l)).onSetLine x.mode mode x.retire
  { b.setCatch (pinLine l) r.2 with
    lines := b.lines.set l.val
      { mode := mode, edge := edge, hold := hold, sampled := x.sampled, run := 0#4, qualified := x.sampled,
        retire := r.1 } }

/-- R134: the line unit after a FULL reset: each line's qualified level is set to its sampled level. -/
def LineBlock.fullReset (b : LineBlock) : LineBlock := LineBlock.reset fun l => b.lines[l].sampled

end Sys2Proof.Machine
end

