-- ==== Sys2Proof/Machine/Flags.lean ====
section
/-! DEFINITION. The fault latches and the counters (sections 9.4 and 9.5). -/

namespace Sys2Proof.Machine

/-- The eight fault latches (R167). -/
inductive Latch where
  | lineError
  | damageSeen
  | localAccessError
  | condition
  | transitOverrun
  | spurOverrun
  | localOverrun
  | mgmtOverrun
  deriving DecidableEq, Repr

/-- R19: the bit of a latch; bits 3..0 are the low digit and bits 7..4 the high digit of STATUS. -/
def Latch.bit (l : Latch) : Fin 8 :=
  match l with
  | .lineError => 0
  | .damageSeen => 1
  | .localAccessError => 2
  | .condition => 3
  | .transitOverrun => 4
  | .spurOverrun => 5
  | .localOverrun => 6
  | .mgmtOverrun => 7

/-- Whether a latch is set. -/
def Supervision.isSet (x : Supervision) (l : Latch) : Bool := x.latches.getLsbD l.bit.val

/-- The twelve counters (R168). -/
inductive Counter where
  | damaged
  | malformed
  | transitOverrun
  | spurOverrun
  | runAbsorbed
  | mapAbsorbed
  | returned
  | misdirected
  | localRefused
  | mgmtDropped
  | changes
  | translated
  deriving DecidableEq, Repr

/-- R19: the place of a counter, four to a group. -/
def Counter.place (c : Counter) : Fin 12 :=
  match c with
  | .damaged => 0
  | .malformed => 1
  | .transitOverrun => 2
  | .spurOverrun => 3
  | .runAbsorbed => 4
  | .mapAbsorbed => 5
  | .returned => 6
  | .misdirected => 7
  | .localRefused => 8
  | .mgmtDropped => 9
  | .changes => 10
  | .translated => 11

/-- The value of a counter. -/
def Supervision.countOf (x : Supervision) (c : Counter) : Count := x.counters[c.place]

/-- R168: one cause of a counter. -/
def State.count (s : State) (c : Counter) : State :=
  s.setSup { s.sup with counters := s.sup.counters.set c.place.val (raiseCount (s.sup.countOf c)) }

/-- Sets a latch without telling the line unit. -/
def State.rawLatch (s : State) (l : Latch) : State :=
  s.setSup { s.sup with latches := s.sup.latches ||| (1#8 <<< l.bit.val) }

/-- R128, R167: while the part is addressed, the line unit is told when the latch set has become non-empty. -/
def State.tellEdge (s : State) (before : BitVec 8) : State :=
  if s.addressed && before = 0#8 && s.sup.latches ≠ 0#8 then s.pseudoEdge else s

/-- R167: a cause sets its latch; the first of the set is an edge of the fault pseudo-line. -/
def State.latch (s : State) (l : Latch) : State := (s.rawLatch l).tellEdge s.sup.latches

/-- One malformed event: MALFORMED is counted and LINE_ERROR set (R8, R21, R24, R75). -/
def State.malformedEvent (s : State) : State := (s.count .malformed).latch .lineError

/-- R28: one overrun report of a queue. -/
def State.overrun (s : State) (t : Target) : State :=
  match t with
  | .transit => (s.count .transitOverrun).latch .transitOverrun
  | .spurOut => (s.count .spurOverrun).latch .spurOverrun
  | .spurReturn => (s.count .spurOverrun).latch .spurOverrun

/-- R169: CLEAR of the fault latches and of the counters, as the selection's bits 0 and 1 ask. -/
def Supervision.clear (x : Supervision) (selection : Digit) : Supervision :=
  { x with
    latches := if selection.getLsbD 0 then 0#8 else x.latches
    counters := if selection.getLsbD 1 then tabulate fun _ => 0#8 else x.counters }

end Sys2Proof.Machine
end

