-- ==== Sys2Proof/Machine/RunFilter.lean ====
section
/-! DEFINITION. The run filter: what opens and closes a run, and what a run absorbs (chapter 5). -/

namespace Sys2Proof.Machine

/-- R81: the run record takes the values of NONE. -/
def State.closeRun (s : State) : State := s.setRun .closed

/-- R25, R86: a frame that belongs to no run, taken from a receiver; a spur frame is not reported. -/
def State.noRun (s : State) (p : Port) : State :=
  match p with
  | .upstream => s.closeRun
  | .spur => s

/-- R82: the run gap G in IDLE units. -/
def Supervision.runGap (x : Supervision) : Nat := 4 * x.gap.toNat

/-- R83: what the run filter answers a candidate. -/
inductive RunAnswer where
  | absorb
  | continue_
  deriving DecidableEq, Repr

/-- R83, R85: the answer to a WRITE (`adjust` false) or ADJUST candidate, and the record after it. -/
def RunRecord.judge (r : RunRecord) (adjust : Bool) (dest : Addr) (cell : Digit) : RunAnswer × RunRecord :=
  if r.isOpen then
    if r.dest = dest && r.cell = cell then
      if adjust && !r.adjustTaken then (.continue_, { r with adjustTaken := true }) else (.absorb, r)
    else (.continue_, .closed)
  else (.continue_, r)

/-- R84: a run with this head. -/
def RunRecord.opened (dest : Addr) (cell : Digit) : RunRecord :=
  { isOpen := true, dest := dest, cell := cell, adjustTaken := false }

/-- R84: a placed WRITE opens a run when the record is NONE, its entry has absorb runs set and an action other than
ABSORB, and g is not 0. -/
def State.openRun (s : State) (e : Entry) (dest : Addr) (cell : Digit) : State :=
  if !s.run.isOpen && e.absorbRuns && e.action ≠ .absorb && s.sup.gap ≠ 0#4 then s.setRun (.opened dest cell) else s

end Sys2Proof.Machine
end

