-- ==== Sys2Proof/Machine/Supervision.lean ====
section
/-! DEFINITION. Loop supervision: BREAK reports, the changes of the upstream and spur states, TRACE records, and the swap
that waits for them (chapters 3, 6 and 9). -/

namespace Sys2Proof.Machine

/-! ## BREAK frames (R164, R165) -/

/-- R164, condition 4: a state differs from what was last reported. -/
def State.unreported (s : State) : Bool :=
  s.sup.up ≠ s.sup.lastUp || (s.spur.state ≠ .disabled && s.spur.state ≠ s.sup.lastSpur)

/-- R164: the conditions of a BREAK build. -/
def State.breakDue (s : State) : Bool :=
  s.addressed && s.line.reportAddr ≠ s.adr && s.inserted .breakReport = 0 && s.unreported

/-- R164: the BREAK frame with its condition tag. -/
def State.breakHeld (s : State) : Held :=
  { digits := (breakFrame s.adr s.line.reportAddr s.sup.up s.spur.state s.map.generation).digits
    tag := .condition
      { oldUp := s.sup.lastUp, oldSpur := s.sup.lastSpur, newUp := s.sup.up, newSpur := s.spur.state } }

/-- R164: a BREAK build. -/
def State.buildBreak (s : State) : State :=
  (s.setSup { s.sup with lastUp := s.sup.up, lastSpur := s.spur.state }).insert s.breakHeld

/-- R164: the examination at a cause for a BREAK build. -/
def State.examineBreak (s : State) : State := if s.breakDue then s.buildBreak else s

/-- R165: the records after the discard of a BREAK with this tag. A record that still holds the value the BREAK reported is set
back, and another stands. DESIGN CHOICE, unsafe (assumption log 17): a spur record changed and changed back since the build
"still holds the value" and "has been changed", and the model goes by the value. -/
def Supervision.revert (x : Supervision) (t : ConditionTag) : Supervision :=
  { x with
    lastUp := if x.lastUp = t.newUp then t.oldUp else x.lastUp
    lastSpur := if x.lastSpur = t.newSpur then t.oldSpur else x.lastSpur }

/-- The two orders of an EVENT claim and a BREAK claim that come about in one step: the manual takes them "in either
order" (section 10.5), so a free value decides in report mode EVENT (assumption log 3). -/
def State.eitherOrder (s : State) (f g : State → State) : State :=
  if s.line.reportMode = .event then
    if s.nextFree % 2 = 0 then g (f s.consume) else f (g s.consume)
  else g (f s)

/-! ## Swap (R39, R40, R156) -/

/-- R156: the payload of the COMMIT reply. -/
def commitPayload (generation : Digit) : List Digit := [0x5#4, 0x0#4, generation]

/-- R40 and R156: the swap of a pending commit. The roles are exchanged, the generation rises, an open run closes, and the
COMMIT reply is built. -/
def State.swap (s : State) : State :=
  match s.mgmt.commit with
  | none => s
  | some (src, seq) =>
    let t := (s.setMap s.map.exchange).closeRun
    let payload := commitPayload t.map.generation
    (t.setMgmt { t.mgmt with
      last := some { src := src, seq := seq, command := 0x5#4, payload := payload }, commit := none }).fillReply
        (mgmtReplyFrame t.adr src seq payload).digits

/-! ## Frames handed over by a receiver that are malformed whatever they hold -/

/-- R12.3, R12.4: a receiver in ASSEMBLE completes its frame as truncated and moves to HUNT; the frame is taken as
malformed (R21). A completion at the upstream receiver sets the gap count to 0 (R34). -/
def State.truncate (s : State) (p : Port) : State :=
  if (s.rx p).state = .assemble then
    let t := s.setRx p .reset
    let u := (match p with | .upstream => t.setGapCount 0 | .spur => t)
    (u.noRun p).malformedEvent
  else s

/-! ## The upstream state (R160 to R162) -/

/-- R161, step 3: what the upstream receiver, the run filter and the map store do when they are told. -/
def State.toldSilent (s : State) : State := ((s.truncate .upstream).closeRun).swap

/-- R161: the change of the upstream state to SILENT. The edge that CONDITION may give the line unit is told at step 2, or
after step 3 or step 4: the manual leaves the order open (assumption log 3). -/
def State.becomeSilent (s : State) : State :=
  if s.sup.up = .live then
    let t := (s.setSup { s.sup with up := .silent, restoreCount := 0 }).count .changes
    if t.line.reportMode = .event then
      let u := t.consume.rawLatch .condition
      match t.nextFree % 3 with
      | 0 => ((u.tellEdge t.sup.latches).toldSilent).examineBreak
      | 1 => ((u.toldSilent).tellEdge t.sup.latches).examineBreak
      | _ => ((u.toldSilent).examineBreak).tellEdge t.sup.latches
    else ((t.latch .condition).toldSilent).examineBreak
  else s

/-- R162: the change of the upstream state to LIVE. -/
def State.becomeLive (s : State) : State :=
  if s.sup.up = .silent then
    ((s.setSup { s.sup with up := .live, silenceCount := 0, restoreCount := 0 }).count .changes).examineBreak
  else s

/-! ## The spur state (R105, R106, R163) -/

/-- R105 and R163: the change of the spur state from CLOSED to OPEN. -/
def State.spurOpens (s : State) : State :=
  if s.spur.state = .closed then
    (((s.setSpur { s.spur with state := .opened, restoreCount := 0 }).truncate .spur).count .changes).eitherOrder
      (fun t => t.latch .condition) State.examineBreak
  else s

/-- R106 and R163: the change of the spur state from OPEN to CLOSED. -/
def State.spurCloses (s : State) : State :=
  if s.spur.state = .opened then
    ((s.setSpur { s.spur with state := .closed, watchCount := 0, restoreCount := 0 }).count .changes).examineBreak
  else s

/-- R106, R162: an intact frame taken from a receiver restores a SILENT upstream, or an OPEN spur. -/
def State.restoreByFrame (s : State) (p : Port) : State :=
  match p with
  | .upstream => s.becomeLive
  | .spur => s.spurCloses

/-! ## Events that are due (assumption log 4) -/

/-- The event itself, whatever is due. -/
def State.perform (s : State) (d : Due) : State :=
  match d with
  | .runGapExpiry => s.closeRun
  | .swap => s.swap
  | .upstreamSilence => s.becomeSilent
  | .upstreamRestore => s.becomeLive
  | .spurWatchExpiry => s.spurOpens
  | .spurRestore => s.spurCloses

/-- The part takes every event that is due, in order, before anything else. -/
def State.settle (s : State) : State := s.due.foldl State.perform (s.setDue [])

/-- The part takes one event, if it is due; otherwise the event has not come about and nothing happens. -/
def State.takeDue (s : State) (d : Due) : State := if d ∈ s.due then (s.setDue (s.due.erase d)).perform d else s

/-! ## TRACE records (R166) -/

/-- R166: a legal TRACE has a payload of 1, 5, 9 or 13 digits (R16). -/
def legalTrace (f : Frame) : Bool := [1, 5, 9, 13].contains f.payload.length

/-- R16: the TRACE flags digit. -/
def State.traceFlags (s : State) : Digit :=
  digitOfBits (s.sup.latches ≠ 0#8) (s.spur.state = .opened)
    (s.mgmt.manager0.isSome || s.mgmt.manager1.isSome) (s.line.reportMode = .event)

/-- R166: the part's hop record. -/
def State.hopRecord (s : State) : List Digit := [rowOf s.adr, colOf s.adr, s.map.generation, s.traceFlags]

/-- R166: a TRACE copy at its placement: the hop count raised, and the record appended where there is room. -/
def traceWithHop (hop : List Digit) (f : Frame) : Frame :=
  match f.payload with
  | [] => f
  | n :: records =>
    { f with payload := addUpTo15 n 1#4 :: (if f.payload.length + 4 ≤ 15 then records ++ hop else records) }

end Sys2Proof.Machine
end

