-- ==== Sys2Proof/Machine/Resets.lean ====
section
/-! DEFINITION. Discards and resets: the notifications owed for discarded frames, the disable of the spur, and the TRAFFIC
and FULL resets (R12, R35, R101, R102, R108, R110, R111, R134, R135, R148, R165, R171). -/

namespace Sys2Proof.Machine

/-! ## Discard notifications -/

/-- The groups of lines named by the report tags of discarded frames, in order (R101). A frame with a report tag is an EVENT or a
POLL (R95). -/
def reportGroups (hs : List Held) : List LineGroup :=
  hs.filterMap fun h =>
    match h.tag with
    | .report ls => some { lines := ls, eventGone := h.kind = .event }
    | .none => none
    | .condition _ => none

/-- R101, R111, R108: the line unit is told of the discard of these frames. The discard of an EVENT is a cause of its own, examined
once its lines have moved (R132, cause 2); how many of the other frames' lines have moved by then is left open (assumption log 3). -/
def State.discardReports (s : State) (hs : List Held) : State := s.moveLines LineBlock.discard (reportGroups hs)

/-- R101, R165: the supervision unit is told of the discard of the BREAK frames among these. -/
def State.discardBreaks (s : State) (hs : List Held) : State :=
  hs.foldl
    (fun t h =>
      match h.tag with
      | .condition c => t.setSup (t.sup.revert c)
      | .none => t
      | .report _ => t) s

/-! ## SET SPUR (R107, R108) -/

/-- R107: SET SPUR with enable 1h. -/
def State.enableSpur (s : State) (watch : Digit) : State :=
  if s.spur.state = .disabled then
    ((s.setSpur { s.spur with state := .closed, watchTime := watch, watchCount := 0, restoreCount := 0 }).setRx .spur
      { state := .skip, buffer := [] }).setSup { s.sup with lastSpur := .closed }
  else s.setSpur { s.spur with watchTime := watch }

/-- R15: the downstream transmitter aborts on a disable when it is sending the head of the spur return queue. -/
def Tx.abortFrom (t : Tx) (src : Source) : Tx :=
  match t with
  | .send x _ => if x = src then .fill 0 else t
  | .fill _ => t
  | .ready => t

/-- R108: SET SPUR with enable 0h, its check passed or not needed. -/
def State.disableSpur (s : State) (watch : Digit) : State :=
  if s.spur.state = .disabled then s.setSpur { s.spur with watchTime := watch }
  else
    let lost := s.spur.queue
    let t := s.setSpur { s.spur with
      state := .disabled, watchTime := watch, watchCount := 0, restoreCount := 0, queue := [], tx := s.spur.tx.abort }
    let t := t.setMerge { t.merge with spurReturn := [], tx := t.merge.tx.abortFrom .spurReturn }
    let t := (t.setRx .spur .reset).setSup { t.sup with lastSpur := .disabled }
    t.discardReports lost

/-! ## TRAFFIC reset -/

/-- The `n`-th interleaving of two lists, each kept in its own order; every interleaving is the `n`-th for some `n`. -/
def interleave {α : Type} : Nat → List α → List α → List α
  | _, [], ys => ys
  | n, x :: xs, ys =>
    let k := n % (ys.length + 1)
    ys.take k ++ x :: interleave (n / (ys.length + 1)) xs (ys.drop k)

/-- The frames that a TRAFFIC reset discards, in the order of their notifications: the merge unit's queues as R101 lists
them, and the spur unit's queue from head to tail (R111). The manual leaves open how the two units' notifications fall
among each other: in report mode EVENT, where it could show, a free value decides between all their interleavings
(assumption log 3). -/
def State.trafficLosses (s : State) : List Held :=
  let down := s.merge.transit ++ s.merge.spurReturn ++ s.merge.insertion
  if s.line.reportMode = .event then interleave s.nextFree down s.spur.queue else down ++ s.spur.queue

/-- R12, R35, R89, R101, R111: what a TRAFFIC reset does at once. The downstream transmitter is shown in FILL, so that no
grant is made inside the reset (R148: the reply is granted at the first grant after it). -/
def State.trafficFlush (s : State) : State :=
  let t := ((s.setRx .upstream s.upRx.abandon).setRx .spur s.spurRx.abandon).setGapCount 0
  let t := t.closeRun
  let t := t.setMerge { t.merge with transit := [], spurReturn := [], insertion := [], pointer := 0, tx := .fill 0 }
  t.setSpur { t.spur with queue := [], tx := t.spur.tx.abort }

/-- Gives the downstream transmitter back the state that a reset leaves it in (R15). -/
def State.releaseTx (s : State) (tx : Tx) : State := s.setMerge { s.merge with tx := tx }

/-- R35, R101, R111, R135, R148, R165, R171: the TRAFFIC reset, before its reply is built. -/
def State.trafficReset (s : State) : State :=
  let lost := s.trafficLosses
  let t := if s.line.reportMode = .event then s.consume else s
  let t := (t.trafficFlush).discardBreaks lost
  let t := t.eitherOrder (fun u => u.discardReports lost) State.examineBreak
  t.releaseTx s.merge.tx.abort

/-! ## FULL reset -/

/-- R12, R35, R61, R89, R102, R110, R134, R148, R171: the FULL reset, before its reply is built. The BREAK that the
difference between a SILENT upstream and its record may cause is built inside it, and no grant is made there (R148). -/
def State.fullReset (s : State) : State :=
  let t := ((s.setRx .upstream s.upRx.abandon).setRx .spur .reset).setGapCount 0
  let t := (t.setMap .reset).closeRun
  let t := t.setMerge { t.merge with transit := [], spurReturn := [], insertion := [], pointer := 0, tx := .fill 0 }
  let t := t.setSpur { t.spur with
    state := .disabled, watchTime := 4#4, watchCount := 0, restoreCount := 0, queue := [], tx := t.spur.tx.abort }
  let t := t.setLines t.line.fullReset
  let t := t.setMgmt { t.mgmt with manager0 := none, manager1 := none }
  let t := t.setSup { t.sup with
    lastUp := .live, lastSpur := .disabled, latches := 0#8, counters := tabulate fun _ => 0#8, policy := .forward,
    gap := 0#4, silenceTime := 4#4 }
  t.examineBreak.releaseTx s.merge.tx.abort

/-! ## The RESET pin -/

/-- R2, R5 and the power-on columns of every chapter: the release of RESET. The commands that wait and the count of free
values are the model's and stay. -/
def State.release (s : State) (rate : BitVec 2) (adr : Addr) (pins : BitVec 12) : State :=
  { State.powerOn rate adr pins with choices := s.choices, pending := s.pending }

/-- R15: while RESET is held low both transmitters send IDLE; a frame or reply in transmission is cut short. -/
def State.assertReset (s : State) : State :=
  let t := s.setMerge { s.merge with tx := .fill 0, dout := unitIdle }
  { t.setSpur { t.spur with tx := .fill 0, sout := unitIdle } with resetLow := true }

end Sys2Proof.Machine
end

