-- ==== Sys2Proof/Machine/Management.lean ====
section
/-! DEFINITION. In-band management: the sixteen commands, the order of a MGMT frame's examination, replay, the reply
slot and COMMIT (chapter 8). -/

namespace Sys2Proof.Machine

/-! ## Commands and their arguments (R18, R142, R143) -/

/-- A management command whose length and arguments are in order. -/
inductive Command where
  | reset (full : Bool)
  | loadEntry (a : Addr) (e : Entry)
  | loadBlock (a : Addr) (last : Digit) (e : Entry)
  | loadPatterns (p : Fin 8) (index : Nat) (vs : List Pattern)
  | copyActive
  | commit
  | readEntry (staging : Bool) (a : Addr)
  | readPatterns (staging : Bool) (p : Fin 8) (index k : Nat)
  | status
  | readCounters (group : Fin 3)
  | clear (selection : Digit)
  | setLine (l : Fin 12) (mode : LineMode) (edge : Edge) (hold : Digit)
  | setReporting (mode : ReportMode) (a : Addr) (code : BitVec 2)
  | setSpur (enable : Bool) (watch : Digit)
  | setOptions (policy : Policy) (gap silence : Digit)
  | setManager (second : Bool) (a : Option Addr)
  deriving DecidableEq, Repr

/-- What steps 4 and 5 of R138 find. -/
inductive Parsed where
  | length
  | invalid
  | command (c : Command)
  deriving DecidableEq, Repr

/-- A command, unless an argument is out of range (R143). -/
def Parsed.unless (bad : Bool) (c : Command) : Parsed := if bad then .invalid else .command c

/-- The page of a page digit 0h to 7h. -/
def pageOf (d : Digit) : Fin 8 := ⟨d.toNat % 8, by omega⟩

/-- The index that two digits give, high digit first (R18). -/
def indexOf (h l : Digit) : Nat := 16 * h.toNat + l.toNat

/-- R18, R143: RESET. -/
def parseReset (args : List Digit) : Parsed :=
  match args with
  | [scope] => .unless (scope ≠ 1#4 && scope ≠ 2#4) (.reset (scope = 2#4))
  | _ => .length

/-- R18, R143: LOAD ENTRY. -/
def parseLoadEntry (args : List Digit) : Parsed :=
  match args with
  | [row, col, d1, d2, d3, d4, d5, d6] =>
    let e : EntryDigits := ⟨d1, d2, d3, d4, d5, d6⟩
    .unless (badRow row || badEntry e) (.loadEntry (addrOf row col) (storedForm e))
  | _ => .length

/-- R18, R143: LOAD BLOCK. -/
def parseLoadBlock (args : List Digit) : Parsed :=
  match args with
  | [row, col, last, d1, d2, d3, d4, d5, d6] =>
    let e : EntryDigits := ⟨d1, d2, d3, d4, d5, d6⟩
    .unless (badRow row || badEntry e || last < col) (.loadBlock (addrOf row col) last (storedForm e))
  | _ => .length

/-- Digits in pairs, high digit first, as patterns (R63). -/
def patternsOf : List Digit → List Pattern
  | h :: l :: rest => byteOf h l :: patternsOf rest
  | _ => []

/-- R142, R143: LOAD PATTERNS, the count examined before the length it decides. -/
def parseLoadPatterns (args : List Digit) : Parsed :=
  match args with
  | page :: ih :: il :: k :: ds =>
    if k = 0#4 || 5#4 < k then .invalid
    else if ds.length ≠ 2 * k.toNat then .length
    else .unless (7#4 < page || 0x1F < indexOf ih il || 32 < indexOf ih il + k.toNat)
      (.loadPatterns (pageOf page) (indexOf ih il) (patternsOf ds))
  | _ => .length

/-- R18: COPY ACTIVE, COMMIT and STATUS have no arguments. -/
def parseBare (c : Command) (args : List Digit) : Parsed :=
  match args with
  | [] => .command c
  | _ => .length

/-- R18, R143: READ ENTRY. -/
def parseReadEntry (args : List Digit) : Parsed :=
  match args with
  | [bank, row, col] => .unless (1#4 < bank || badRow row) (.readEntry (bank = 1#4) (addrOf row col))
  | _ => .length

/-- R18, R143: READ PATTERNS. -/
def parseReadPatterns (args : List Digit) : Parsed :=
  match args with
  | [bank, page, ih, il, k] =>
    .unless (1#4 < bank || 7#4 < page || 0x1F < indexOf ih il || k = 0#4 || 6#4 < k || 32 < indexOf ih il + k.toNat)
      (.readPatterns (bank = 1#4) (pageOf page) (indexOf ih il) k.toNat)
  | _ => .length

/-- R18, R143: READ COUNTERS. -/
def parseReadCounters (args : List Digit) : Parsed :=
  match args with
  | [group] => .unless (2#4 < group) (.readCounters ⟨group.toNat % 3, by omega⟩)
  | _ => .length

/-- R18, R143: CLEAR. -/
def parseClear (args : List Digit) : Parsed :=
  match args with
  | [selection] => .unless (3#4 < selection) (.clear selection)
  | _ => .length

/-- R18: the mode of a mode digit. -/
def lineModeOf (d : Digit) : LineMode :=
  match d.toNat with
  | 0 => .disabled
  | 1 => .input
  | 2 => .catching
  | _ => .output

/-- R18: the edge setting of an edge digit. -/
def edgeOf (d : Digit) : Edge :=
  match d.toNat with
  | 0 => .falling
  | 1 => .rising
  | _ => .both

/-- R18, R143: SET LINE. -/
def parseSetLine (args : List Digit) : Parsed :=
  match args with
  | [line, mode, edge, hold] =>
    .unless (0xB#4 < line || 3#4 < mode || 2#4 < edge || hold = 0#4)
      (.setLine ⟨line.toNat % 12, by omega⟩ (lineModeOf mode) (edgeOf edge) hold)
  | _ => .length

/-- R18, R143: SET REPORTING. -/
def parseSetReporting (own : Addr) (args : List Digit) : Parsed :=
  match args with
  | [mode, row, col, code] =>
    .unless (1#4 < mode || badRow row || addrOf row col = own || addrOf row col = Config.broadcast || 3#4 < code)
      (.setReporting (if mode = 1#4 then .event else .poll) (addrOf row col) (code.setWidth 2))
  | _ => .length

/-- R18, R143: SET SPUR. -/
def parseSetSpur (args : List Digit) : Parsed :=
  match args with
  | [enable, watch] => .unless (1#4 < enable || watch = 0#4) (.setSpur (enable = 1#4) watch)
  | _ => .length

/-- R18, R143: SET OPTIONS. -/
def parseSetOptions (args : List Digit) : Parsed :=
  match args with
  | [policy, gap, silence] =>
    .unless (1#4 < policy || silence = 0#4) (.setOptions (if policy = 1#4 then .drop else .forward) gap silence)
  | _ => .length

/-- R18, R143: SET MANAGER; its address is examined only with the present digit 1h. -/
def parseSetManager (own : Addr) (args : List Digit) : Parsed :=
  match args with
  | [slot, present, row, col] =>
    .unless
      (1#4 < slot || 1#4 < present
        || (present = 1#4 && (badRow row || addrOf row col = own || addrOf row col = Config.broadcast)))
      (.setManager (slot = 1#4) (if present = 1#4 then some (addrOf row col) else none))
  | _ => .length

/-- Steps 4 and 5 of R138 for a command digit and its arguments. -/
def parseCommand (own : Addr) (code : Digit) (args : List Digit) : Parsed :=
  match code.toNat with
  | 0 => parseReset args
  | 1 => parseLoadEntry args
  | 2 => parseLoadBlock args
  | 3 => parseLoadPatterns args
  | 4 => parseBare .copyActive args
  | 5 => parseBare .commit args
  | 6 => parseReadEntry args
  | 7 => parseReadPatterns args
  | 8 => parseBare .status args
  | 9 => parseReadCounters args
  | 10 => parseClear args
  | 11 => parseSetLine args
  | 12 => parseSetReporting own args
  | 13 => parseSetSpur args
  | 14 => parseSetOptions args
  | _ => parseSetManager own args

/-! ## Replies (R140, R144) -/

/-- R19: the status digits. -/
def statusOk : Digit := 0#4
/-- R19: INVALID. -/
def statusInvalid : Digit := 1#4
/-- R19: LENGTH. -/
def statusLength : Digit := 2#4
/-- R19: DENIED. -/
def statusDenied : Digit := 3#4
/-- R19: INCONSISTENT. -/
def statusInconsistent : Digit := 4#4

/-- The command digit of a MGMT frame: its first payload digit. -/
def Frame.command (f : Frame) : Digit := f.payload.headD 0#4

/-- A MGMT-REPLY to a frame, built in the reply slot. -/
def State.reply (s : State) (f : Frame) (payload : List Digit) : State :=
  s.fillReply (mgmtReplyFrame s.adr f.src f.seq payload).digits

/-- R144: the last-command record that a reply leaves. -/
def State.recordReply (s : State) (f : Frame) (payload : List Digit) : State :=
  s.setMgmt { s.mgmt with last := some { src := f.src, seq := f.seq, command := f.command, payload := payload } }

/-- R144: a reply built at steps 4 to 7, which also replaces the last-command record. -/
def State.answerWith (s : State) (f : Frame) (status : Digit) (data : List Digit) : State :=
  (s.recordReply f (f.command :: status :: data)).reply f (f.command :: status :: data)

/-- R19: the data of an INCONSISTENT answer. -/
def faultData (r : Digit × Addr) : List Digit := [r.1, rowOf r.2, colOf r.2]

/-! ## The manager list (R141, R153) -/

/-- R141: whether the manager list accepts a source. -/
def Management.accepts (m : Management) (src : Addr) : Bool :=
  (m.manager0.isNone && m.manager1.isNone) || m.manager0 = some src || m.manager1 = some src

/-- The number of manager slots present. -/
def Management.slotsInUse (m : Management) : Nat := m.manager0.isSome.toNat + m.manager1.isSome.toNat

/-- R153: SET MANAGER. -/
def Management.setManager (m : Management) (second : Bool) (a : Option Addr) : Management :=
  if second then { m with manager1 := a } else { m with manager0 := a }

/-! ## The effects of the commands (R146 to R154) -/

/-- R19, R149: the eight status digits. -/
def State.statusData (s : State) : List Digit :=
  [s.map.generation, upDigit s.sup.up, spurDigit s.spur.state, highDigit s.sup.latches, lowDigit s.sup.latches,
   (match s.line.reportMode with | .poll => 0#4 | .event => 1#4), digitOf s.mgmt.slotsInUse,
   digitOf s.merge.transit.length]

/-- R19, R150: the four counters of a group, each as two digits. -/
def State.counterData (s : State) (group : Fin 3) : List Digit :=
  ((List.finRange 4).map fun j => s.sup.counters[4 * group.val + j.val]'(by omega)).flatMap byteDigits

/-- R131, R132 (cause 3), R164: SET REPORTING. -/
def State.setReporting (s : State) (mode : ReportMode) (a : Addr) (code : BitVec 2) : State :=
  let t := s.setLines { s.line with reportMode := mode, reportAddr := a, sampleCode := code }
  let event (u : State) : State := if mode = .event || a ≠ s.line.reportAddr then u.examineEvent else u
  let brk (u : State) : State := if a ≠ s.line.reportAddr then u.examineBreak else u
  t.eitherOrder event brk

/-- R154: a COMMIT that passed validation waits, or swaps at once when the upstream receiver is in HUNT or SKIP or the
upstream state is SILENT (R39). -/
def State.acceptCommit (s : State) (f : Frame) : State :=
  let t := s.setMgmt { s.mgmt with reply := .reserved, commit := some (f.src, f.seq) }
  if t.upRx.state ≠ .assemble || t.sup.up = .silent then t.swap else t

/-- R154, R158: COMMIT. -/
def State.doCommit (s : State) (f : Frame) : State :=
  match s.map.stagingBank.firstFault s.adr s.spur.state with
  | some r => s.answerWith f statusInconsistent (faultData r)
  | none => s.acceptCommit f

/-- R152: SET SPUR. -/
def State.doSetSpur (s : State) (f : Frame) (enable : Bool) (watch : Digit) : State :=
  if enable then (s.enableSpur watch).answerWith f statusOk []
  else if s.spur.state = .disabled then (s.disableSpur watch).answerWith f statusOk []
  else
    match s.map.activeBank.firstSpurUse s.adr with
    | some r => s.answerWith f statusInconsistent (faultData r)
    | none => (s.disableSpur watch).answerWith f statusOk []

/-- Steps 6 and 7 of R138: the command is carried out, or refused INCONSISTENT, and answered. -/
def State.execute (s : State) (f : Frame) (c : Command) : State :=
  match c with
  | .reset full => (if full then s.fullReset else s.trafficReset).answerWith f statusOk []
  | .loadEntry a e => (s.setMap (s.map.loadEntry a e)).answerWith f statusOk []
  | .loadBlock a last e => (s.setMap (s.map.loadBlock a last e)).answerWith f statusOk []
  | .loadPatterns p i vs => (s.setMap (s.map.loadPatterns p i vs)).answerWith f statusOk []
  | .copyActive => (s.setMap s.map.copyActive).answerWith f statusOk []
  | .commit => s.doCommit f
  | .readEntry staging a => s.answerWith f statusOk ((s.map.bankOf staging).entry a).toDigits
  | .readPatterns staging p i k =>
    s.answerWith f statusOk (((s.map.bankOf staging).readPatterns p i k).flatMap byteDigits)
  | .status => s.answerWith f statusOk s.statusData
  | .readCounters group => s.answerWith f statusOk (s.counterData group)
  | .clear selection => (s.setSup (s.sup.clear selection)).answerWith f statusOk []
  | .setLine l mode edge hold => (s.setLines (s.line.configure l mode edge hold)).answerWith f statusOk []
  | .setReporting mode a code => (s.setReporting mode a code).answerWith f statusOk []
  | .setSpur enable watch => s.doSetSpur f enable watch
  | .setOptions policy gap silence =>
    (s.setSup { s.sup with policy := policy, gap := gap, silenceTime := silence }).answerWith f statusOk []
  | .setManager second a => (s.setMgmt (s.mgmt.setManager second a)).answerWith f statusOk []

/-- R140: whether a frame's source and sequence digit equal those of the last-command record. -/
def Management.replays (m : Management) (f : Frame) : Option (List Digit) :=
  match m.last with
  | some r => if r.src = f.src && r.seq = f.seq then some r.payload else none
  | none => none

/-- R138: the examination of a MGMT frame handed to the management unit. -/
def State.manage (s : State) (f : Frame) : State :=
  if s.mgmt.reply ≠ .free then (s.count .mgmtDropped).latch .mgmtOverrun
  else match s.mgmt.replays f with
    | some payload => s.reply f payload
    | none =>
      if !s.mgmt.accepts f.src then s.reply f [f.command, statusDenied]
      else match parseCommand s.adr f.command (f.payload.drop 1) with
        | .length => s.answerWith f statusLength []
        | .invalid => s.answerWith f statusInvalid []
        | .command c => s.execute f c

end Sys2Proof.Machine
end

