-- ==== Sys2Proof/Machine/Intake.lean ====
section
/-! DEFINITION. Frame intake: what becomes of a completed frame (chapter 2), the own frames of the line unit (R118 to
R121), and the receivers at the unit level (section 1.7, R34). -/

namespace Sys2Proof.Machine

/-! ## Own frames (R24) -/

/-- R118: an own WRITE or ADJUST of payload length 1 or more. -/
def State.ownCells (s : State) (adjust : Bool) (cell : Digit) (vs : List Digit) : State :=
  let t := s.setLines (s.line.putCells adjust cell vs)
  if anyCell (fun c => !cellWritable c) cell vs.length then t.latch .localAccessError else t

/-- R120, R121: an own READ of `k` cells. -/
def State.ownRead (s : State) (f : Frame) (cell : Digit) (k : Nat) (masks : List Digit) : State :=
  if s.inserted .reply < Config.replyAllowance then
    let t := s.insert (Held.plain (replyFrame s.adr f (s.readCells cell k masks)).digits)
    if anyCell cellAbsent cell k then t.latch .localAccessError else t
  else (s.count .localRefused).latch .localOverrun

/-- R24: an own frame, by its kind and payload. -/
def State.ownFrame (s : State) (f : Frame) : State :=
  match kindOf f.kind with
  | .write =>
    match f.payload with
    | [] => s.malformedEvent
    | cell :: vs => s.ownCells false cell vs
  | .adjust =>
    match f.payload with
    | [] => s.malformedEvent
    | cell :: vs => s.ownCells true cell vs
  | .read =>
    match f.payload with
    | cell :: k :: masks => if k = 0#4 then s.malformedEvent else s.ownRead f cell k.toNat masks
    | _ => s.malformedEvent
  | .mgmt =>
    match f.payload with
    | [] => s.malformedEvent
    | _ :: _ => s.manage f
  | .reply => s.count .misdirected
  | .display => s.count .misdirected
  | .pattern => s.count .misdirected
  | .poll => s.count .misdirected
  | .event => s.count .misdirected
  | .mgmtReply => s.count .misdirected
  | .trace => s.count .misdirected
  | .breakReport => s.count .misdirected
  | .unassigned => s.count .misdirected

/-! ## Placement on the main path (R26 to R31) -/

/-- R129: whether a copy is the one that carries a broadcast POLL's report records. -/
def State.carriesRecords (s : State) (f : Frame) (alone : Bool) (c : Copy) : Bool :=
  s.addressed && f.dst = Config.broadcast && kindOf f.kind = .poll && legalPoll f && (alone || c.target = .transit)

/-- R26, R27, R129, R130, R166: a copy that is not translated is entered, with its records. -/
def State.enterCopy (s : State) (hop : List Digit) (alone : Bool) (f : Frame) (c : Copy) : State :=
  let f1 := { f with dst := c.dst }
  if s.carriesRecords f alone c && !(s.pollLines f).isEmpty then
    (s.setLines (s.line.record (s.pollLines f))).enter c.target
      [{ digits := (s.pollWithRecords f1).digits, tag := .report (s.pollLines f) }]
  else if s.addressed && kindOf f.kind = .trace && legalTrace f then
    s.enter c.target [Held.plain (traceWithHop hop f1).digits]
  else s.enter c.target [Held.plain f1.digits]

/-- R26, R28 to R31: one copy of a disposition. The answer says whether it was placed. -/
def State.placeCopy (s : State) (e : Entry) (hop : List Digit) (alone : Bool) (f : Frame) (c : Copy) : Bool × State :=
  if c.dst ≠ f.dst && s.own = some c.dst then (false, s.count .mapAbsorbed)
  else if c.translate then
    let fs := s.map.activeBank.convert e { f with dst := c.dst }
    if s.claim c.target fs.length then (true, s.enter c.target (fs.map fun x => Held.plain x.digits))
    else (false, s.overrun c.target)
  else if s.claim c.target 1 then (true, s.enterCopy hop alone f c)
  else (false, s.overrun c.target)

/-- The copies of a disposition, each placed by its own claim (R30). -/
def State.placeCopies (s : State) (e : Entry) (hop : List Digit) (alone : Bool) (f : Frame) :
    List Copy → Bool × State
  | [] => (false, s)
  | c :: rest =>
    let r := s.placeCopy e hop alone f c
    let q := State.placeCopies r.2 e hop alone f rest
    (r.1 || q.1, q.2)

/-- R75, R77: before the claims, TRANSLATED is raised for a SHOW of which a copy is translated; a SHOW of length 0 is one
malformed event instead, and no copy of it is translated. -/
def State.beforeClaims (s : State) (f : Frame) (cs : List Copy) : List Copy × State :=
  if cs.any (fun c => c.translate) then
    if f.payload.isEmpty then (cs.map fun c => { c with translate := false }, s.malformedEvent)
    else (cs, s.count .translated)
  else (cs, s)

/-- Stages 6 and 7 for a frame of an assigned kind: the lookup in the active bank, and the placement (R26, R52). -/
def State.lookupAndPlace (s : State) (f : Frame) : Bool × State :=
  let e := s.map.activeBank.entry f.dst
  match e.disposition s.spur.state (kindOf f.kind) f.dst with
  | .absorbed => (false, s.count .mapAbsorbed)
  | .copies cs =>
    let b := s.beforeClaims f cs
    b.2.placeCopies e s.hopRecord (cs.length = 1) f b.1

/-- A frame placed in one queue as it is, or lost as an overrun (R22, R26, R33). -/
def State.placeAsIs (s : State) (t : Target) (digits : List Digit) : State :=
  if s.claim t 1 then s.enter t [Held.plain digits] else s.overrun t

/-- R27, R119: the local effect of a placed broadcast WRITE or ADJUST. -/
def State.broadcastEffect (s : State) (f : Frame) (adjust : Bool) : State :=
  if s.addressed && f.dst = Config.broadcast then
    match f.payload with
    | [] => s
    | cell :: vs => s.setLines (s.line.putCells adjust cell vs)
  else s

/-- R25, R27, R84: what follows the placement outcome of a WRITE or ADJUST candidate. -/
def State.afterPlacement (s : State) (e : Entry) (f : Frame) (adjust placed : Bool) : State :=
  if placed then
    let t := (match f.payload with
      | [] => s
      | cell :: _ => if adjust then s else s.openRun e f.dst cell)
    t.broadcastEffect f adjust
  else s

/-- R83, R85, R90: stage 5 for a WRITE or ADJUST, and the stages after it. -/
def State.candidate (s : State) (f : Frame) (adjust : Bool) : State :=
  let go (t : State) : State :=
    let r := t.lookupAndPlace f
    r.2.afterPlacement (t.map.activeBank.entry f.dst) f adjust r.1
  match f.payload with
  | [] => go s.closeRun
  | cell :: _ =>
    match s.run.judge adjust f.dst cell with
    | (.absorb, _) => s.count .runAbsorbed
    | (.continue_, r) => go (s.setRun r)

/-- Stages 5 to 7 for an intact frame of the main path that is neither returned nor own (R25, R26). -/
def State.mainPath (s : State) (f : Frame) : State :=
  match kindOf f.kind with
  | .write => s.candidate f false
  | .adjust => s.candidate f true
  | .unassigned => s.closeRun.placeAsIs .transit f.digits
  | .read => (s.closeRun.lookupAndPlace f).2
  | .reply => (s.closeRun.lookupAndPlace f).2
  | .display => (s.closeRun.lookupAndPlace f).2
  | .pattern => (s.closeRun.lookupAndPlace f).2
  | .poll => (s.closeRun.lookupAndPlace f).2
  | .event => (s.closeRun.lookupAndPlace f).2
  | .mgmt => (s.closeRun.lookupAndPlace f).2
  | .mgmtReply => (s.closeRun.lookupAndPlace f).2
  | .trace => (s.closeRun.lookupAndPlace f).2
  | .breakReport => (s.closeRun.lookupAndPlace f).2

/-! ## Taking a frame (R20 to R24, R33) -/

/-- R22, R33: the queue that a frame of a path is placed in as received. -/
def asIsTarget (p : Port) : Target :=
  match p with
  | .upstream => .transit
  | .spur => .spurReturn

/-- R22: a damaged frame under the damaged policy. -/
def State.takeDamaged (s : State) (p : Port) (ds : List Digit) : State :=
  let t := ((s.noRun p).count .damaged).latch .damageSeen
  match t.sup.policy with
  | .forward => t.placeAsIs (asIsTarget p) ds
  | .drop => t

/-- Stages 3 and on for an intact frame (R23, R24, R33). -/
def State.takeIntact (s : State) (p : Port) (f : Frame) : State :=
  let t := s.restoreByFrame p
  if t.own = some f.src then (t.noRun p).count .returned
  else if t.own = some f.dst then (t.noRun p).ownFrame f
  else match p with
    | .upstream => t.mainPath f
    | .spur => t.placeAsIs .spurReturn f.digits

/-- R20: the taking of a completed frame, one event. -/
def State.take (s : State) (p : Port) (e : Ending) (ds : List Digit) : State :=
  match classify e ds with
  | .malformed => (s.noRun p).malformedEvent
  | .damaged => s.takeDamaged p ds
  | .intact f => s.takeIntact p f

/-! ## Completion at a receiver (R9, R20, R34, R39) -/

/-- A receiver completes a frame, is left as `after`, and the frame is taken. A completion at the upstream receiver sets
the gap count to 0 (R34) and ends the wait of a pending swap, which follows the taking (R39, R157). -/
def State.complete (s : State) (p : Port) (e : Ending) (ds : List Digit) (after : Receiver) : State :=
  match p with
  | .upstream =>
    let t := ((s.setRx .upstream after).setGapCount 0).take .upstream e ds
    if t.mgmt.commit.isSome then t.addDue .swap else t
  | .spur => (s.setRx .spur after).take .spur e ds

/-! ## Units (R8 to R11, R34) -/

/-- A count of consecutive IDLE units after one more unit (R106, R162). -/
def restoreAfter (n : Nat) (u : UnitClass) : Nat := if u = .idle then min (n + 1) Config.restoreIdles else 0

/-- R11: a unit is reported to the block that times its line. -/
def State.report (s : State) (p : Port) (u : UnitClass) : State :=
  match p with
  | .upstream =>
    let n := if s.sup.up = .silent then restoreAfter s.sup.restoreCount u else s.sup.restoreCount
    let t := s.setSup { s.sup with silenceCount := 0, restoreCount := n }
    if s.sup.up = .silent && n = Config.restoreIdles then t.addDue .upstreamRestore else t
  | .spur =>
    let n := if s.spur.state = .opened then restoreAfter s.spur.restoreCount u else s.spur.restoreCount
    let t := s.setSpur { s.spur with watchCount := 0, restoreCount := n }
    if s.spur.state = .opened && n = Config.restoreIdles then t.addDue .spurRestore else t

/-- R34, R87: an IDLE unit received in HUNT or SKIP raises the upstream gap count, and the new value is reported to the run
filter. -/
def State.raiseGap (s : State) : State :=
  let n := min (s.gapCount + 1) Config.gapLimit
  let t := s.setGapCount n
  if s.run.isOpen && s.sup.runGap ≤ n then t.addDue .runGapExpiry else t

/-- R34: an IDLE unit in HUNT or SKIP; the spur receiver keeps no gap count. -/
def State.idleBetween (s : State) (p : Port) : State :=
  match p with
  | .upstream => s.raiseGap
  | .spur => s

/-- A receiver that has begun a frame. -/
def Receiver.started : Receiver := { state := .assemble, buffer := [] }

/-- R8: a unit in HUNT. -/
def State.huntUnit (s : State) (p : Port) (u : UnitClass) : State :=
  match u with
  | .start => s.setRx p .started
  | .idle => s.idleBetween p
  | .data _ => s.malformedEvent
  | .stop => s.malformedEvent
  | .stray => s.malformedEvent

/-- R9: a unit in ASSEMBLE. -/
def State.assembleUnit (s : State) (p : Port) (u : UnitClass) : State :=
  let ds := (s.rx p).buffer
  match u with
  | .data d =>
    if ds.length < Config.bufferDigits then s.setRx p { state := .assemble, buffer := ds ++ [d] }
    else s.complete p .overlong ds { state := .skip, buffer := [] }
  | .stop => s.complete p .ended ds .reset
  | .start => s.complete p .truncated ds .started
  | .idle => s.complete p .truncated ds .reset
  | .stray => s.complete p .truncated ds .reset

/-- R10: a unit in SKIP. -/
def State.skipUnit (s : State) (p : Port) (u : UnitClass) : State :=
  match u with
  | .start => s.setRx p .started
  | .idle => s.idleBetween p
  | .data _ => s
  | .stop => s
  | .stray => s

/-- Whether a receiver ignores its input: the spur receiver while the spur is DISABLED (R12). -/
def State.deaf (s : State) (p : Port) : Bool := p = .spur && s.spur.state = .disabled

/-- R1, R8 to R11: one received unit. -/
def State.receive (s : State) (p : Port) (u : LineUnit) : State :=
  if s.deaf p then s
  else
    let t := s.report p (classOf u)
    match (t.rx p).state with
    | .hunt => t.huntUnit p (classOf u)
    | .assemble => t.assembleUnit p (classOf u)
    | .skip => t.skipUnit p (classOf u)

/-! ## A whole frame -/

/-- The state a receiver is left in by an ending (R9). -/
def afterEnding (e : Ending) : Receiver :=
  match e with
  | .ended => .reset
  | .truncated => .reset
  | .overlong => { state := .skip, buffer := [] }

/-- The START of a frame reaches a receiver: it is reported, and cuts short a frame under assembly (R9). -/
def State.startArrives (s : State) (p : Port) : State :=
  let t := s.report p .start
  if (t.rx p).state = .assemble then (t.complete p .truncated (t.rx p).buffer .started).settle else t

/-- A whole frame arrives on an input: its START, and then its completion with these digits and this ending, which is
taken. -/
def State.arrive (s : State) (p : Port) (e : Ending) (ds : List Digit) : State :=
  if s.deaf p then s else (s.startArrives p).complete p e ds (afterEnding e)

/-- An intact frame of a kind arrives whole at the part's own address, from a requester (R3, R24). -/
def State.arriveOwn (s : State) (q : Requester) (kind : Digit) (payload : List Digit) : State :=
  s.arrive q.port .ended { kind := kind, dst := s.adr, src := q.src, seq := q.seq, payload := payload : Frame }.digits

end Sys2Proof.Machine
end

