-- ==== Sys2Proof/Machine/Transmit.lean ====
section
/-! DEFINITION. The transmitters at work: the move to READY, departures with their notifications, the units on the
outputs, the service tick (section 1.8, chapters 6 and 9). -/

namespace Sys2Proof.Machine

/-! ## READY (R13) -/

/-- R13: the downstream transmitter in FILL has sent its second IDLE; it moves to READY and a grant can be taken. -/
def State.readyDown (s : State) : State :=
  match s.merge.tx with
  | .fill _ => (s.setMerge { s.merge with tx := .ready, dout := unitIdle }).grantDown
  | .ready => s
  | .send _ _ => s

/-- R13: the spur transmitter in FILL has sent its second IDLE. -/
def State.readySpur (s : State) : State :=
  match s.spur.tx with
  | .fill _ => (s.setSpur { s.spur with tx := .ready, sout := unitIdle }).grantSpur
  | .ready => s
  | .send _ _ => s

/-! ## Departures (R100, R104) -/

/-- R100: the oldest frame of a downstream store leaves it. -/
def State.removeHead (s : State) (src : Source) : State :=
  match src with
  | .transit => s.setMerge { s.merge with transit := s.merge.transit.drop 1 }
  | .spurReturn => s.setMerge { s.merge with spurReturn := s.merge.spurReturn.drop 1 }
  | .insertion => s.setMerge { s.merge with insertion := s.merge.insertion.drop 1 }
  | .reply => s.setMgmt { s.mgmt with reply := .free }
  | .spurOut => s.setSpur { s.spur with queue := s.spur.queue.drop 1 }

/-- R100, R104: the notifications of a departed frame. Records leave REPORTING by R124 and R126; the departure of an EVENT is a
cause for an EVENT build, that of a BREAK for a BREAK build (R132, R165). -/
def State.notifyDeparture (s : State) (h : Held) : State :=
  match h.tag with
  | .report ls =>
    s.moveLines LineBlock.departure [{ lines := ls, eventGone := h.kind = .event }]
  | .condition _ => s.examineBreak
  | .none => s

/-- R100: the downstream transmitter sends the END of the frame in transmission. -/
def State.departDown (s : State) : State :=
  match s.merge.tx with
  | .send src _ =>
    let t := s.removeHead src
    let t := t.setMerge { t.merge with tx := .fill 0, dout := unitEnd }
    match (s.framesOf src).head? with
    | some h => t.notifyDeparture h
    | none => t
  | .fill _ => s
  | .ready => s

/-- R104: the spur transmitter sends the END of the frame in transmission. -/
def State.departSpur (s : State) : State :=
  match s.spur.tx with
  | .send _ _ =>
    let t := s.setSpur { s.spur with queue := s.spur.queue.drop 1, tx := .fill 0, sout := unitEnd }
    match s.spur.queue.head? with
    | some h => t.notifyDeparture h
    | none => t
  | .fill _ => s
  | .ready => s

/-! ## One unit time (R13, R14) -/

/-- R14: the units of the frame in transmission from a store. -/
def State.unitsOf (s : State) (src : Source) : List LineUnit :=
  match (s.framesOf src).head? with
  | some h => lineUnits h.digits
  | none => [unitEnd]

/-- R13, R14: the downstream transmitter sends one unit. -/
def State.sendDown (s : State) : State :=
  match s.merge.tx with
  | .fill n =>
    if Config.fillIdles ≤ n + 1 then s.readyDown
    else s.setMerge { s.merge with tx := .fill (n + 1), dout := unitIdle }
  | .ready => s.setMerge { s.merge with dout := unitIdle }
  | .send src k =>
    if (s.unitsOf src).length ≤ k + 1 then s.departDown
    else s.setMerge { s.merge with tx := .send src (k + 1), dout := (s.unitsOf src).getD k unitIdle }

/-- R13, R14: the spur transmitter sends one unit. -/
def State.sendSpur (s : State) : State :=
  match s.spur.tx with
  | .fill n =>
    if Config.fillIdles ≤ n + 1 then s.readySpur
    else s.setSpur { s.spur with tx := .fill (n + 1), sout := unitIdle }
  | .ready => s.setSpur { s.spur with sout := unitIdle }
  | .send src k =>
    if (s.unitsOf .spurOut).length ≤ k + 1 then s.departSpur
    else s.setSpur { s.spur with tx := .send src (k + 1), sout := (s.unitsOf .spurOut).getD k unitIdle }

/-- One unit time of both transmitters (assumption log 7). -/
def State.unitTime (s : State) : State :=
  if s.line.reportMode = .event && s.nextFree % 2 = 1 then s.consume.sendSpur.sendDown
  else if s.line.reportMode = .event then s.consume.sendDown.sendSpur
  else s.sendDown.sendSpur

/-- What the part does when no command waits: what is due is taken, and one unit time passes; while RESET is held low it
only sends IDLE (R13, R14, R15; assumption log 7). -/
def State.idle (s : State) : State := if s.resetLow then s else s.settle.unitTime

/-! ## The service tick (R105, R160) -/

/-- R105, R160: the counts of one tick, each up to 15. -/
def State.tickCounts (s : State) : State :=
  (s.setSup { s.sup with silenceCount := min (s.sup.silenceCount + 1) Config.tickLimit }).setSpur
    { s.spur with watchCount := min (s.spur.watchCount + 1) Config.tickLimit }

/-- R160: the silence count, after rising, reaches or passes the silence time while LIVE. -/
def State.silenceReached (s : State) : Bool := s.sup.up = .live && s.sup.silenceTime.toNat ≤ s.sup.silenceCount

/-- R105: the watch count, after rising, reaches or passes the watch time while CLOSED. -/
def State.watchReached (s : State) : Bool := s.spur.state = .closed && s.spur.watchTime.toNat ≤ s.spur.watchCount

/-- R105, R160: a service tick, and what it makes due. Where it makes both due, the manual leaves open which comes first, and
a free value decides unless the commands do (assumption log 3). -/
def State.tick (s : State) : State :=
  let t := s.tickCounts
  if t.silenceReached && t.watchReached then
    if t.nextFree % 2 = 0 then (t.consume.addDue .upstreamSilence).addDue .spurWatchExpiry
    else (t.consume.addDue .spurWatchExpiry).addDue .upstreamSilence
  else if t.silenceReached then t.addDue .upstreamSilence
  else if t.watchReached then t.addDue .spurWatchExpiry
  else t

end Sys2Proof.Machine
end

