-- ==== Sys2Proof/Machine/Commands.lean ====
section
/-! DEFINITION. The meanings of the commands, one definition for each row of spec/opcode_table.json. Every command first
has the part take what is due (`State.settle`), and while RESET is held low every command but the release does nothing
(`State.answer`). -/

namespace Sys2Proof.Machine

/-- A command that the part carries out once nothing is due. -/
def State.settled (s : State) (f : State → State) : Host.Outcome State Fault Refusal := s.answer fun t => f t.settle

/-! ## Reset pin, units and frames -/

/-- POWER_ON_RESET (R2, R5, R12, R15, R34, R61, R79, R81, R89, R102, R110, R134, R137, R171). -/
def execPowerOnReset (rate : BitVec 2) (adr : Addr) (pins : BitVec 12) (s : State) : Host.Outcome State Fault Refusal :=
  .next (s.release rate adr pins)

/-- RESET_ASSERTED (R15). -/
def execResetAsserted (s : State) : Host.Outcome State Fault Refusal := s.settled State.assertReset

/-- RECEIVE_UNIT (R1, R8 to R11, R34). -/
def execReceiveUnit (p : Port) (u : LineUnit) (s : State) : Host.Outcome State Fault Refusal :=
  s.settled fun t => t.receive p u

/-- TAKE_FRAME (R20 to R33). -/
def execTakeFrame (p : Port) (e : Ending) (ds : List Digit) (s : State) : Host.Outcome State Fault Refusal :=
  s.settled fun t => t.arrive p e ds

/-! ## Own frames of the line unit -/

/-- OWN_WRITE (R118). -/
def execOwnWrite (q : Requester) (cell : Digit) (values : List Digit) (s : State) : Host.Outcome State Fault Refusal :=
  s.settled fun t => t.arriveOwn q 0x0#4 (cell :: values)

/-- OWN_ADJUST (R118). -/
def execOwnAdjust (q : Requester) (cell : Digit) (masks : List Digit) (s : State) : Host.Outcome State Fault Refusal :=
  s.settled fun t => t.arriveOwn q 0x1#4 (cell :: masks)

/-- OWN_READ (R120, R121). -/
def execOwnRead (q : Requester) (cell count : Digit) (masks : List Digit) (s : State) :
    Host.Outcome State Fault Refusal :=
  s.settled fun t => t.arriveOwn q 0x2#4 (cell :: count :: masks)

/-! ## Management commands -/

/-- A MGMT frame with a command digit and its arguments arrives from a requester. -/
def State.manageFrom (s : State) (q : Requester) (code : Digit) (args : List Digit) : State :=
  s.arriveOwn q 0x8#4 (code :: args)

/-- The six digits of an entry in the order of R17. -/
def entryArgs (e : EntryDigits) : List Digit := [e.action, e.selector, e.rowModifier, e.columnStep, e.options, e.page]

/-- RESET_TRAFFIC (R148). -/
def execResetTraffic (q : Requester) (s : State) : Host.Outcome State Fault Refusal :=
  s.settled fun t => t.manageFrom q 0x0#4 [1#4]

/-- RESET_FULL (R148). -/
def execResetFull (q : Requester) (s : State) : Host.Outcome State Fault Refusal :=
  s.settled fun t => t.manageFrom q 0x0#4 [2#4]

/-- LOAD_ENTRY (R44, R146). -/
def execLoadEntry (q : Requester) (row col : Digit) (e : EntryDigits) (s : State) : Host.Outcome State Fault Refusal :=
  s.settled fun t => t.manageFrom q 0x1#4 ([row, col] ++ entryArgs e)

/-- LOAD_BLOCK (R44, R146). -/
def execLoadBlock (q : Requester) (row col last : Digit) (e : EntryDigits) (s : State) :
    Host.Outcome State Fault Refusal :=
  s.settled fun t => t.manageFrom q 0x2#4 ([row, col, last] ++ entryArgs e)

/-- LOAD_PATTERNS (R64, R142, R146). -/
def execLoadPatterns (q : Requester) (page indexHigh indexLow count : Digit) (patterns : List Pattern) (s : State) :
    Host.Outcome State Fault Refusal :=
  s.settled fun t => t.manageFrom q 0x3#4 ([page, indexHigh, indexLow, count] ++ patterns.flatMap byteDigits)

/-- COPY_ACTIVE (R41, R146). -/
def execCopyActive (q : Requester) (s : State) : Host.Outcome State Fault Refusal :=
  s.settled fun t => t.manageFrom q 0x4#4 []

/-- COMMIT (R154). -/
def execCommit (q : Requester) (s : State) : Host.Outcome State Fault Refusal :=
  s.settled fun t => t.manageFrom q 0x5#4 []

/-- SWAP (R39, R40, R156). -/
def execSwap (s : State) : Host.Outcome State Fault Refusal := s.answer fun t => t.takeDue .swap

/-- READ_ENTRY (R45, R147). -/
def execReadEntry (q : Requester) (bank row col : Digit) (s : State) : Host.Outcome State Fault Refusal :=
  s.settled fun t => t.manageFrom q 0x6#4 [bank, row, col]

/-- READ_PATTERNS (R65, R147). -/
def execReadPatterns (q : Requester) (bank page indexHigh indexLow count : Digit) (s : State) :
    Host.Outcome State Fault Refusal :=
  s.settled fun t => t.manageFrom q 0x7#4 [bank, page, indexHigh, indexLow, count]

/-- STATUS (R149). -/
def execStatus (q : Requester) (s : State) : Host.Outcome State Fault Refusal :=
  s.settled fun t => t.manageFrom q 0x8#4 []

/-- READ_COUNTERS (R150). -/
def execReadCounters (q : Requester) (group : Digit) (s : State) : Host.Outcome State Fault Refusal :=
  s.settled fun t => t.manageFrom q 0x9#4 [group]

/-- CLEAR_FAULT_LATCHES (R150, R169): CLEAR with selection 1h, or 3h. -/
def execClearFaultLatches (q : Requester) (alsoCounters : Bool) (s : State) : Host.Outcome State Fault Refusal :=
  s.settled fun t => t.manageFrom q 0xA#4 [if alsoCounters then 3#4 else 1#4]

/-- CLEAR_COUNTERS (R150, R169): CLEAR with selection 2h, or 3h. -/
def execClearCounters (q : Requester) (alsoLatches : Bool) (s : State) : Host.Outcome State Fault Refusal :=
  s.settled fun t => t.manageFrom q 0xA#4 [if alsoLatches then 3#4 else 2#4]

/-- SET_LINE (R133, R151). -/
def execSetLine (q : Requester) (line mode edge hold : Digit) (s : State) : Host.Outcome State Fault Refusal :=
  s.settled fun t => t.manageFrom q 0xB#4 [line, mode, edge, hold]

/-- SET_REPORTING (R131, R151). -/
def execSetReporting (q : Requester) (mode row col code : Digit) (s : State) : Host.Outcome State Fault Refusal :=
  s.settled fun t => t.manageFrom q 0xC#4 [mode, row, col, code]

/-- SET_SPUR_ENABLE (R107, R152). -/
def execSetSpurEnable (q : Requester) (watch : Digit) (s : State) : Host.Outcome State Fault Refusal :=
  s.settled fun t => t.manageFrom q 0xD#4 [1#4, watch]

/-- SET_SPUR_DISABLE (R59, R108, R152). -/
def execSetSpurDisable (q : Requester) (watch : Digit) (s : State) : Host.Outcome State Fault Refusal :=
  s.settled fun t => t.manageFrom q 0xD#4 [0#4, watch]

/-- SET_OPTIONS (R151, R170). -/
def execSetOptions (q : Requester) (policy gap silence : Digit) (s : State) : Host.Outcome State Fault Refusal :=
  s.settled fun t => t.manageFrom q 0xE#4 [policy, gap, silence]

/-- SET_MANAGER (R153). -/
def execSetManager (q : Requester) (slot present row col : Digit) (s : State) : Host.Outcome State Fault Refusal :=
  s.settled fun t => t.manageFrom q 0xF#4 [slot, present, row, col]

/-! ## Transmitters -/

/-- TRANSMITTER_READY (R13, R96 to R99, R104). -/
def execTransmitterReady (o : Output) (s : State) : Host.Outcome State Fault Refusal :=
  s.settled fun t =>
    match o with
    | .downstream => t.readyDown
    | .spur => t.readySpur

/-- FRAME_DEPARTS (R100). -/
def execFrameDeparts (s : State) : Host.Outcome State Fault Refusal := s.settled State.departDown

/-- SPUR_FRAME_DEPARTS (R104). -/
def execSpurFrameDeparts (s : State) : Host.Outcome State Fault Refusal := s.settled State.departSpur

/-! ## Events that come about within the part, and the clock -/

/-- RUN_GAP_EXPIRY (R87). -/
def execRunGapExpiry (s : State) : Host.Outcome State Fault Refusal := s.answer fun t => t.takeDue .runGapExpiry

/-- UPSTREAM_SILENCE (R161). -/
def execUpstreamSilence (s : State) : Host.Outcome State Fault Refusal := s.answer fun t => t.takeDue .upstreamSilence

/-- UPSTREAM_RESTORE (R162). -/
def execUpstreamRestore (s : State) : Host.Outcome State Fault Refusal := s.answer fun t => t.takeDue .upstreamRestore

/-- SPUR_WATCH_EXPIRY (R105). -/
def execSpurWatchExpiry (s : State) : Host.Outcome State Fault Refusal := s.answer fun t => t.takeDue .spurWatchExpiry

/-- SPUR_RESTORE (R106). -/
def execSpurRestore (s : State) : Host.Outcome State Fault Refusal := s.answer fun t => t.takeDue .spurRestore

/-- LINE_SAMPLE (R115 to R117). -/
def execLineSample (pins : BitVec 12) (s : State) : Host.Outcome State Fault Refusal :=
  s.settled fun t => t.sampleLines pins

/-- SERVICE_TICK (R105, R160). -/
def execServiceTick (s : State) : Host.Outcome State Fault Refusal := s.settled State.tick

end Sys2Proof.Machine
end

