-- ==== Sys2Proof/Machine/Dispatch.lean ====
section
/-! DEFINITION. The dispatch of the commands to their meanings. -/

namespace Sys2Proof.Machine

def exec (i : Instr) (s : State) : Host.Outcome State Fault Refusal :=
  match i with
  | .powerOnReset rate adr pins => Sys2Proof.Machine.execPowerOnReset rate adr pins s
  | .receiveUnit p u => Sys2Proof.Machine.execReceiveUnit p u s
  | .runGapExpiry => Sys2Proof.Machine.execRunGapExpiry s
  | .takeFrame p e ds => Sys2Proof.Machine.execTakeFrame p e ds s
  | .ownWrite q cell values => Sys2Proof.Machine.execOwnWrite q cell values s
  | .ownAdjust q cell masks => Sys2Proof.Machine.execOwnAdjust q cell masks s
  | .ownRead q cell count masks => Sys2Proof.Machine.execOwnRead q cell count masks s
  | .resetTraffic q => Sys2Proof.Machine.execResetTraffic q s
  | .resetFull q => Sys2Proof.Machine.execResetFull q s
  | .loadEntry q row col e => Sys2Proof.Machine.execLoadEntry q row col e s
  | .loadBlock q row col last e => Sys2Proof.Machine.execLoadBlock q row col last e s
  | .loadPatterns q page indexHigh indexLow count patterns => Sys2Proof.Machine.execLoadPatterns q page indexHigh indexLow count patterns s
  | .copyActive q => Sys2Proof.Machine.execCopyActive q s
  | .commit q => Sys2Proof.Machine.execCommit q s
  | .swap => Sys2Proof.Machine.execSwap s
  | .readEntry q bank row col => Sys2Proof.Machine.execReadEntry q bank row col s
  | .readPatterns q bank page indexHigh indexLow count => Sys2Proof.Machine.execReadPatterns q bank page indexHigh indexLow count s
  | .status q => Sys2Proof.Machine.execStatus q s
  | .readCounters q group => Sys2Proof.Machine.execReadCounters q group s
  | .clearFaultLatches q alsoCounters => Sys2Proof.Machine.execClearFaultLatches q alsoCounters s
  | .clearCounters q alsoLatches => Sys2Proof.Machine.execClearCounters q alsoLatches s
  | .setLine q line mode edge hold => Sys2Proof.Machine.execSetLine q line mode edge hold s
  | .setReporting q mode row col code => Sys2Proof.Machine.execSetReporting q mode row col code s
  | .setSpurEnable q watch => Sys2Proof.Machine.execSetSpurEnable q watch s
  | .setSpurDisable q watch => Sys2Proof.Machine.execSetSpurDisable q watch s
  | .setOptions q policy gap silence => Sys2Proof.Machine.execSetOptions q policy gap silence s
  | .setManager q slot present row col => Sys2Proof.Machine.execSetManager q slot present row col s
  | .transmitterReady o => Sys2Proof.Machine.execTransmitterReady o s
  | .frameDeparts => Sys2Proof.Machine.execFrameDeparts s
  | .spurFrameDeparts => Sys2Proof.Machine.execSpurFrameDeparts s
  | .upstreamSilence => Sys2Proof.Machine.execUpstreamSilence s
  | .upstreamRestore => Sys2Proof.Machine.execUpstreamRestore s
  | .spurWatchExpiry => Sys2Proof.Machine.execSpurWatchExpiry s
  | .spurRestore => Sys2Proof.Machine.execSpurRestore s
  | .lineSample pins => Sys2Proof.Machine.execLineSample pins s
  | .serviceTick => Sys2Proof.Machine.execServiceTick s
  | .resetAsserted => Sys2Proof.Machine.execResetAsserted s

end Sys2Proof.Machine
end

