-- ==== Sys2Proof/Safety.lean ====
section
/-! DEFINITION. What the statements about the part are said in: the conditions under which a command reaches its block,
what a management answer looks like, what a command leaves alone, and the laws of the manual that every step keeps. -/

namespace Sys2Proof.Machine

/-! ## Conditions -/

/-- RESET is not held low and no event is due. -/
def State.Quiet (s : State) : Prop := s.resetLow = false ∧ s.due = []

/-- The input's receiver listens and is not under way with a frame, and no restore or swap hangs on a frame taken from
it: the upstream state is LIVE for the upstream input, the spur CLOSED for the spur input, and no commit is pending. -/
def State.Hears (s : State) (p : Port) : Prop :=
  (s.rx p).state ≠ .assemble ∧ s.mgmt.commit = none ∧
  match p with
  | .upstream => s.sup.up = .live
  | .spur => s.spur.state = .closed

/-- A frame of this requester is an own frame: the part has an own address and it is not the frame's source (R5, R23,
R24). -/
def State.Owned (s : State) (q : Requester) : Prop := s.adr ≠ Config.broadcast ∧ q.src ≠ s.adr

/-- An own frame of this requester reaches the line unit or the management unit, and nothing else comes of it. -/
def State.Delivers (s : State) (q : Requester) : Prop := s.Quiet ∧ s.Hears q.port ∧ s.Owned q

/-- An own MGMT frame of this requester gets past steps 1 to 3 of R138. -/
def State.Manages (s : State) (q : Requester) : Prop :=
  s.Delivers q ∧ s.mgmt.reply = .free ∧ s.mgmt.accepts q.src = true ∧
  ∀ r, s.mgmt.last = some r → ¬(r.src = q.src ∧ r.seq = q.seq)

/-- The part once an own frame has been heard whole on an input and before its block acts on it: the receiver is in HUNT with
an empty buffer, the silence of its line is 0, and, on the upstream input, the gap count is 0 and the run is closed. -/
def State.heard (s : State) (p : Port) : State :=
  match p with
  | .upstream =>
    { s with upRx := .reset, gapCount := 0, run := .closed, sup := { s.sup with silenceCount := 0 } }
  | .spur => { s with spurRx := .reset, spur := { s.spur with watchCount := 0 } }

/-- The input's receiver listens and is not under way with a frame, and no commit is pending. -/
def State.Between (s : State) (p : Port) : Prop :=
  (s.rx p).state ≠ .assemble ∧ s.mgmt.commit = none ∧ (p = .spur → s.spur.state ≠ .disabled)

/-- A frame is neither the part's own nor from the part itself (R5, R23, R24). -/
def State.Foreign (s : State) (f : Frame) : Prop := s.adr = Config.broadcast ∨ (f.src ≠ s.adr ∧ f.dst ≠ s.adr)

/-- R21: the conditions under which a completed frame is malformed. -/
def MalformedFrame (e : Ending) (ds : List Digit) : Prop :=
  e ≠ .ended ∨ ds.length < 9 ∨ ds.length ≠ (ds.getD 6 0#4).toNat + 9 ∨ 7 < (ds.getD 1 0#4).toNat ∨
  7 < (ds.getD 3 0#4).toNat

/-- R28: the queue has `n` free slots. -/
def State.Room (s : State) (q : Target) (n : Nat) : Prop :=
  match q with
  | .transit => s.merge.transit.length + n ≤ 6
  | .spurOut => s.spur.queue.length + n ≤ 4
  | .spurReturn => s.merge.spurReturn.length + n ≤ 4

/-! ## What a unit and a frame do to their line -/

/-- The part once a unit has been reported to the block that times its line: the silence is 0, and the restore count counts
an IDLE, or is 0 after another unit (R11, R105, R106, R160, R162). -/
def State.noted (s : State) (p : Port) (idle : Bool) : State :=
  match p with
  | .upstream =>
    { s with sup := { s.sup with
        silenceCount := 0
        restoreCount :=
          if s.sup.up = .silent then (if idle then min (s.sup.restoreCount + 1) 64 else 0) else s.sup.restoreCount } }
  | .spur =>
    { s with spur := { s.spur with
        watchCount := 0
        restoreCount :=
          if s.spur.state = .opened then (if idle then min (s.spur.restoreCount + 1) 64 else 0)
          else s.spur.restoreCount } }

/-- The part once a frame has been completed on an input, its last unit no IDLE, and the receiver left as given: on the
upstream input the gap count is 0 (R34). -/
def State.arrived (s : State) (p : Port) (r : Receiver) : State :=
  match p with
  | .upstream => { s.noted .upstream false with upRx := r, gapCount := 0 }
  | .spur => { s.noted .spur false with spurRx := r }

/-- The part with the run closed, for a frame of the upstream input; a spur frame is not reported to the run filter (R25). -/
def State.withoutRun (s : State) (p : Port) : State :=
  match p with
  | .upstream => { s with run := .closed }
  | .spur => s

/-! ## Effects, told by what they change -/

/-- `t` is `s` but for the line unit, and what an EVENT build and its grant change: the insertion queue, the reply slot's grant,
the grant pointer, the downstream transmitter and the count of free values. -/
def EventEffect (s t : State) : Prop :=
  t = { s with
    line := t.line
    merge := { s.merge with insertion := t.merge.insertion, pointer := t.merge.pointer, tx := t.merge.tx }
    mgmt := { s.mgmt with reply := t.mgmt.reply }
    choices := t.choices }

/-- R168: one counter has risen by one, up to 255, and nothing else has changed. -/
def Counted (s t : State) (c : Counter) : Prop :=
  (∀ d, (t.sup.countOf d).toNat = if d = c then min ((s.sup.countOf c).toNat + 1) 255 else (s.sup.countOf d).toNat) ∧
  t = { s with sup := { s.sup with counters := t.sup.counters } }

/-! ### Grants -/

/-- The queue of a position of the grant cycle (R98). -/
def queueAt (s : State) (i : Fin 4) : List Held :=
  match i with
  | 0 => s.merge.transit
  | 1 => s.merge.spurReturn
  | 2 => s.merge.transit
  | 3 => s.merge.insertion

/-- The store of a position of the grant cycle (R98). -/
def storeAt (i : Fin 4) : Source :=
  match i with
  | 0 => .transit
  | 1 => .spurReturn
  | 2 => .transit
  | 3 => .insertion

/-- R96 to R99: `t` is `s` once the merge unit has checked for a grant. A transmitter that is not READY is granted nothing. A
READY one is granted the reply where the slot is FULL, the pointer kept; otherwise the first queue from the pointer on that
holds a frame, the pointer moving past it; and otherwise nothing. -/
def GrantChecked (s t : State) : Prop :=
  (s.merge.tx ≠ .ready → t = s) ∧
  (s.merge.tx = .ready →
    (∀ ds, s.mgmt.reply = .full ds →
      t = { s with
        merge := { s.merge with tx := .send .reply 0 }
        mgmt := { s.mgmt with reply := .sending ds } }) ∧
    ((∀ ds, s.mgmt.reply ≠ .full ds) →
      (∀ i : Fin 4, queueAt s i ≠ [] →
        (∀ j : Fin 4, (j - s.merge.pointer).val < (i - s.merge.pointer).val → queueAt s j = []) →
        t = { s with merge := { s.merge with tx := .send (storeAt i) 0, pointer := i + 1 } }) ∧
      ((∀ i : Fin 4, queueAt s i = []) → t = s)))

/-- R104: `t` is `s` once the spur unit has checked for a grant: a READY transmitter is granted the head of the spur-out queue
while the spur is CLOSED or OPEN. -/
def SpurGrantChecked (s t : State) : Prop :=
  t = { s with spur := { s.spur with
    tx := if s.spur.tx = .ready ∧ s.spur.state ≠ .disabled ∧ s.spur.queue ≠ [] then .send .spurOut 0 else s.spur.tx } }

/-- R28, R29, R93, R96, R104: frames stand at the tail of a queue, and the queue's owner has checked for a grant. -/
def Placed (s t : State) (q : Target) (hs : List Held) : Prop :=
  match q with
  | .transit => GrantChecked { s with merge := { s.merge with transit := s.merge.transit ++ hs } } t
  | .spurReturn => GrantChecked { s with merge := { s.merge with spurReturn := s.merge.spurReturn ++ hs } } t
  | .spurOut => SpurGrantChecked { s with spur := { s.spur with queue := s.spur.queue ++ hs } } t

/-- R94, R96: a frame stands at the tail of the insertion queue, and the merge unit has checked for a grant. -/
def Inserted (s t : State) (h : Held) : Prop :=
  GrantChecked { s with merge := { s.merge with insertion := s.merge.insertion ++ [h] } } t

/-! ### Moves of the lines -/

/-- R122: an edge on line `l`, whose catch record is `k`. -/
def edgeMove (b : LineBlock) (l : Fin 13) (k : Catch) : Catch :=
  match k.state with
  | .none => k
  | .armed => { state := .caught, c := 1#4, n := 0#4 }
  | .caught => { k with c := addUpTo15 k.c 1#4 }
  | .reporting => if b.retire l then k else { k with n := addUpTo15 k.n 1#4 }

/-- R124, R126: the departure of the frame that carries the record of line `l`. -/
def departureMove (b : LineBlock) (l : Fin 13) (k : Catch) : Catch :=
  if b.retire l then { state := if b.catches_ l then .armed else .none, c := 0#4, n := 0#4 }
  else if k.n = 0#4 then { state := .armed, c := 0#4, n := 0#4 }
  else { state := .caught, c := k.n, n := 0#4 }

/-- R125, R126: the discard of the frame that carries the record of line `l`. -/
def discardMove (b : LineBlock) (l : Fin 13) (k : Catch) : Catch :=
  if b.retire l then { state := if b.catches_ l then .armed else .none, c := 0#4, n := 0#4 }
  else { state := .caught, c := addUpTo15 k.c k.n, n := 0#4 }

/-- A line's catch record once those of the lines `moved` have moved. -/
def movedCatch (b : LineBlock) (move : Fin 13 → Catch → Catch) (moved : List (Fin 13)) (l : Fin 13) : Catch :=
  if l ∈ moved then move l (b.catchOf l) else b.catchOf l

/-- R132: the EVENT that reports the lines `ls`, with the counts that the line unit of `t` holds for them. -/
def eventTold (s t : State) (ls : List (Fin 13)) : Held :=
  { digits := (eventFrame s.adr s.line.reportAddr s.line.eventSeq
      (ls.flatMap fun l => [BitVec.ofNat 4 l.val, (t.line.catchOf l).c])).digits
    tag := .report ls }

/-- R122 to R126, R132: what the line unit of `t` has of that of `s` once the lines `named` have moved, each once. `ls` are the
lines of the EVENT built on that account, and there are none where none is built. One is built exactly where the conditions of
R132 hold and a line has become CAUGHT, or an EVENT has gone and a line is CAUGHT. It takes the lines that are CAUGHT once the
lines `first` have moved, ascending and up to seven; a line that moves after that moves from its new record. -/
def LinesMoved (s t : State) (move : Fin 13 → Catch → Catch) (named : List (Fin 13)) (eventGone : Prop)
    (ls : List (Fin 13)) : Prop :=
  t.line = { s.line with lines := t.line.lines, catches := t.line.catches, eventSeq := t.line.eventSeq } ∧
  (ls ≠ [] ↔
    s.line.reportMode = .event ∧ s.adr ≠ Config.broadcast ∧ s.line.reportAddr ≠ s.adr ∧ s.inserted .event = 0 ∧
    ((∃ l ∈ named, (s.line.catchOf l).state ≠ .caught ∧ (move l (s.line.catchOf l)).state = .caught) ∨
      eventGone ∧ ∃ l, (movedCatch s.line move named l).state = .caught)) ∧
  t.line.eventSeq = (if ls = [] then s.line.eventSeq else s.line.eventSeq + 1#4) ∧
  t.inserted .event = (if ls = [] then s.inserted .event else 1) ∧
  (ls ≠ [] → eventTold s t ls ∈ t.merge.insertion) ∧
  ∃ first : List (Fin 13), (∀ l ∈ first, l ∈ named) ∧
    (ls ≠ [] → ls = ((List.finRange 13).filter fun l => (movedCatch s.line move first l).state = .caught).take 7) ∧
    ∀ l, t.line.catchOf l =
      if l ∈ ls then
        if l ∈ named ∧ l ∉ first then
          move l { state := .reporting, c := (movedCatch s.line move first l).c, n := 0#4 }
        else { state := .reporting, c := (movedCatch s.line move first l).c, n := 0#4 }
      else movedCatch s.line move named l

/-- R94, R132: but for the line unit and the count of free values, `t` is `s`, or, where the EVENT of the lines `ls` has been
built, `s` with that EVENT in the insertion queue. -/
def EventEntered (s t : State) (ls : List (Fin 13)) : Prop :=
  if ls = [] then t = { s with line := t.line, choices := t.choices }
  else Inserted { s with line := t.line, choices := t.choices } t (eventTold s t ls)

/-- R126: the lines that a frame names, once it is gone, are retired no more, and no other field of a line has changed. -/
def LinesReleased (s t : State) (named : List (Fin 13)) : Prop :=
  ∀ l : Fin 12, t.line.lines[l] =
    { s.line.lines[l] with retire := (s.line.lines[l]).retire && !decide (pinLine l ∈ named) }

/-! ### Latches and overruns -/

/-- R128, R167: a latch has been set. While the part is addressed, the first latch of an empty set is an edge of the fault
pseudo-line, which in report mode EVENT may cause an EVENT build. -/
def Latched (s t : State) (l : Latch) : Prop :=
  (∀ m, t.sup.isSet m = (s.sup.isSet m || decide (m = l))) ∧
  t.sup = { s.sup with latches := t.sup.latches } ∧
  (s.adr = Config.broadcast ∨ s.sup.latches ≠ 0#8 → t = { s with sup := t.sup }) ∧
  (s.adr ≠ Config.broadcast → s.sup.latches = 0#8 →
    ∃ ls, LinesMoved { s with sup := t.sup } t (edgeMove s.line) [pseudoLine] False ls ∧
      EventEntered { s with sup := t.sup } t ls ∧ t.line.lines = s.line.lines ∧ t.choices = s.choices)

/-- A cause has been counted and has set its latch. -/
def Reported (s t : State) (c : Counter) (l : Latch) : Prop := ∃ u, Counted s u c ∧ Latched u t l

/-- R28: the counter and the latch of a queue's overrun. -/
def overrunOf (q : Target) : Counter × Latch :=
  match q with
  | .transit => (.transitOverrun, .transitOverrun)
  | .spurOut => (.spurOverrun, .spurOverrun)
  | .spurReturn => (.spurOverrun, .spurOverrun)

/-- R28, R29: frames are placed in a queue by one claim, or lost as one overrun. -/
def Claimed (s t : State) (q : Target) (hs : List Held) : Prop :=
  (s.Room q hs.length ∧ Placed s t q hs) ∨
  (¬s.Room q hs.length ∧ Reported s t (overrunOf q).1 (overrunOf q).2)

/-! ## Answers of the management unit -/

/-- The digits of the MGMT-REPLY to a source and a sequence digit (R144). -/
def replyDigits (s : State) (src : Addr) (seq : Digit) (payload : List Digit) : List Digit :=
  (mgmtReplyFrame s.adr src seq payload).digits

/-- The part once a reply has been built: the reply slot is FULL, or already granted to a transmitter that was READY (R96,
R97, R99). -/
def State.replied (s : State) (src : Addr) (seq : Digit) (payload : List Digit) : State :=
  if s.merge.tx = .ready then
    { s with
      merge := { s.merge with tx := .send .reply 0 }
      mgmt := { s.mgmt with reply := .sending (replyDigits s src seq payload) } }
  else { s with mgmt := { s.mgmt with reply := .full (replyDigits s src seq payload) } }

/-- The part once a command has been answered at steps 4 to 7 of R138: the last-command record is replaced, and the reply is
built (R144). -/
def State.answered (s : State) (src : Addr) (seq command status : Digit) (data : List Digit) : State :=
  { s with mgmt := { s.mgmt with
      last := some { src := src, seq := seq, command := command, payload := command :: status :: data } } }.replied
    src seq (command :: status :: data)

/-! ## Laws that every step keeps -/

/-- R92, R94: no store holds more than its capacity, and the insertion queue holds only REPLY, EVENT and BREAK frames,
each within its allowance. -/
def StoresBounded (s : State) : Prop :=
  s.merge.transit.length ≤ 6 ∧ s.merge.spurReturn.length ≤ 4 ∧ s.spur.queue.length ≤ 4 ∧
  s.inserted .reply ≤ 2 ∧ s.inserted .event ≤ 1 ∧ s.inserted .breakReport ≤ 1 ∧
  ∀ h ∈ s.merge.insertion, h.kind = .reply ∨ h.kind = .event ∨ h.kind = .breakReport

/-- R3, R14: digits of a frame that may be sent: 9 to 24 digits, rows 0 to 7, and the length digit equal to the number of
payload digits. -/
def Sendable (ds : List Digit) : Prop :=
  9 ≤ ds.length ∧ ds.length ≤ 24 ∧ (ds.getD 1 0#4).toNat ≤ 7 ∧ (ds.getD 3 0#4).toNat ≤ 7 ∧
  ds.length = (ds.getD 6 0#4).toNat + 9

/-- R14: every frame that the part holds may be sent, and the recorded reply payload makes such a frame. -/
def FramesSendable (s : State) : Prop :=
  (∀ src, ∀ h ∈ s.framesOf src, Sendable h.digits) ∧
  ∀ r, s.mgmt.last = some r → 2 ≤ r.payload.length ∧ r.payload.length ≤ 15

/-- While RESET is not held low, the reply slot is in SENDING exactly while the downstream transmitter sends its frame (R99,
R145). -/
def SlotLaw (s : State) : Prop :=
  s.resetLow = false → ((∃ ds, s.mgmt.reply = .sending ds) ↔ ∃ n, s.merge.tx = .send .reply n)

/-- R60, with what keeps it: the active bank passes validation under the spur state, and while a commit is pending the
staging bank does too and the reply slot is RESERVED (R39, R155). -/
def MapLaw (s : State) : Prop :=
  SlotLaw s ∧ s.map.activeBank.firstFault s.adr s.spur.state = none ∧
  (s.mgmt.commit.isSome = true →
    s.mgmt.reply = .reserved ∧ s.map.stagingBank.firstFault s.adr s.spur.state = none)

/-- R67 for one bank: a page whose valid flag is clear holds 00h in every entry. -/
def Bank.PagesLaw (b : Bank) : Prop := ∀ (p : Fin 8) (i : Fin 32), b.isValid p = false → b.pattern p i.val = 0#8

/-- R67: in either bank, a page whose valid flag is clear holds 00h in every one of its 32 entries. -/
def PagesLaw (s : State) : Prop := s.map.bankA.PagesLaw ∧ s.map.bankB.PagesLaw

/-- Both banks' stores are in canonical form. -/
def BanksCanonical (s : State) : Prop := s.map.bankA.wf = true ∧ s.map.bankB.wf = true

/-- The lines named by the report tags of the frames of a queue. -/
def taggedLines (hs : List Held) : List (Fin 13) :=
  hs.flatMap fun h =>
    match h.tag with
    | .report ls => ls
    | .none => []
    | .condition _ => []

/-- The lines named by the report tags of the frames that the part holds. -/
def State.reportedLines (s : State) : List (Fin 13) :=
  taggedLines s.merge.transit ++ taggedLines s.merge.insertion ++ taggedLines s.spur.queue

/-- R127, with what keeps it: a line is REPORTING exactly when a held frame carries a record for it, no held frame carries two
records for one line, and frames in the spur return queue carry no tag (R95). -/
def ReportingLaw (s : State) : Prop :=
  s.reportedLines.Nodup ∧ (∀ l, (s.line.catchOf l).state = .reporting ↔ l ∈ s.reportedLines) ∧
  ∀ h ∈ s.merge.spurReturn, h.tag = .none

/-- The ranges that the manual gives the counts and the assembly buffers (sections 1.7, 2.9, 6.4 and chapter 9). -/
def CountsInRange (s : State) : Prop :=
  s.gapCount ≤ 63 ∧ s.sup.silenceCount ≤ 15 ∧ s.spur.watchCount ≤ 15 ∧ s.sup.restoreCount ≤ 64 ∧
  s.spur.restoreCount ≤ 64 ∧ s.upRx.buffer.length ≤ 24 ∧ s.spurRx.buffer.length ≤ 24

/-- R88, R91: a run is open only while the upstream state is LIVE. -/
def RunLaw (s : State) : Prop := s.run.isOpen = true → s.sup.up = .live

/-- R103, R109: while the spur is DISABLED its queues are empty, its transmitter sends no frame and its receiver is in HUNT
with an empty buffer (R12). -/
def SpurLaw (s : State) : Prop :=
  s.spur.state = .disabled →
    s.spur.queue = [] ∧ s.merge.spurReturn = [] ∧ (∀ src n, s.spur.tx ≠ .send src n) ∧ s.spurRx = .reset

/-- R96, R104: a READY transmitter has nothing to send, and a transmitter in SEND has a frame. -/
def TransmitLaw (s : State) : Prop :=
  (s.merge.tx = .ready →
    s.merge.transit = [] ∧ s.merge.spurReturn = [] ∧ s.merge.insertion = [] ∧ ∀ ds, s.mgmt.reply ≠ .full ds) ∧
  (∀ src n, s.merge.tx = .send src n → s.framesOf src ≠ [] ∧ src ≠ .spurOut) ∧
  (s.spur.tx = .ready → s.spur.state ≠ .disabled → s.spur.queue = []) ∧
  ∀ src n, s.spur.tx = .send src n → s.spur.queue ≠ []

/-- R137, R153, R113: no manager slot holds the own address or 7Fh, and the report address is no broadcast. -/
def AddressesLaw (s : State) : Prop :=
  s.mgmt.manager0 ≠ some Config.broadcast ∧ s.mgmt.manager1 ≠ some Config.broadcast ∧
  s.mgmt.manager0 ≠ some s.adr ∧ s.mgmt.manager1 ≠ some s.adr ∧ s.line.reportAddr ≠ Config.broadcast

/-- R113, R126, R133: which catch states a line may have. Retire is set only while REPORTING; a line in CATCH mode is not NONE; a
line in another mode is NONE, or REPORTING with retire set; and the pseudo-line is never NONE. -/
def CatchLaw (s : State) : Prop :=
  (∀ l : Fin 12,
    ((s.line.lines[l]).retire = true → (s.line.catchOf (pinLine l)).state = .reporting) ∧
    ((s.line.lines[l]).mode = .catching → (s.line.catchOf (pinLine l)).state ≠ .none) ∧
    ((s.line.lines[l]).mode ≠ .catching →
      (s.line.catchOf (pinLine l)).state = .none ∨ (s.line.lines[l]).retire = true)) ∧
  (s.line.catchOf pseudoLine).state ≠ .none

/-- R62, R112, R136, R159: in unaddressed mode the part keeps its power-on values of the banks, the spur state, the manager list,
the reply slot, the last-command record and the settings, and holds frames in the transit queue alone. -/
def UnaddressedLaw (s : State) : Prop :=
  s.adr = Config.broadcast →
    s.map = .reset ∧ s.run = .closed ∧ s.spur.state = .disabled ∧ s.mgmt = .reset ∧ s.merge.spurReturn = [] ∧
    s.merge.insertion = [] ∧ s.spur.queue = [] ∧ s.sup.policy = .forward ∧ s.sup.gap = 0#4 ∧
    s.sup.silenceTime = 4#4 ∧ s.line.reportMode = .poll ∧ s.line.latches = tabulate (fun _ => 0#4) ∧
    (∀ l : Fin 12, (s.line.lines[l]).mode = .input ∧ (s.line.lines[l]).retire = false) ∧
    (∀ l : Fin 13, s.line.catchOf l = Catch.empty (if l = 12 then .armed else .none)) ∧
    (∀ h ∈ s.merge.transit, h.tag = .none) ∧ ∀ n, s.merge.tx ≠ .send .reply n

end Sys2Proof.Machine
end

