-- ==== Sys2Proof/Certificates/Slice0/Obligations.lean ====
section
/-! DEFINITION. The statements for the provers. Each docstring names the rules that its statement formalises. -/

open Sys2Proof Sys2Proof.Machine

/-! ## The machine and its queue of commands -/

/-- Assumption log 1: a step takes the command at the front of the queue and carries it out with the queue's rest. -/
def Obligations.StepRunsTheCommandInFront : Prop :=
  ∀ (c : Instr) (rest : List Instr) (s : State), s.pending = c :: rest → step s = exec c { s with pending := rest }

/-- R13, R14 on the model's empty queue (assumption log 7): a transmitter in SEND sends the next unit of its frame, START, its
digits, or END, which is the frame's departure; in FILL it sends IDLE, and its second IDLE is its move to READY; in READY it sends
IDLE and stays READY, the downstream one while the spur's is not in SEND (its departure can have an EVENT built and granted).
The departure and the move are those of the commands. -/
def Obligations.EmptyQueueSendsTheNextUnits : Prop :=
  ∀ s : State, s.pending = [] → s.Quiet →
    ∃ t, step s = .next t ∧
      (∀ src k h rest, s.merge.tx = .send src k → src ≠ .spurOut → s.framesOf src = h :: rest →
        (k ≤ h.digits.length →
          t.merge.tx = .send src (k + 1) ∧ some t.merge.dout = ([unitStart] ++ h.digits.map unitData)[k]?) ∧
        (h.digits.length < k → t.merge.tx = .fill 0 ∧ t.merge.dout = unitEnd ∧
          ((∀ x n, s.spur.tx ≠ .send x n) →
            ∃ u, exec .frameDeparts s = .next u ∧ t = { u with spur := t.spur, choices := t.choices }))) ∧
      (∀ src k h rest, s.spur.tx = .send src k → s.spur.queue = h :: rest →
        (k ≤ h.digits.length → (∀ n, s.merge.tx ≠ .send .spurOut n) →
          t.spur.tx = .send src (k + 1) ∧ some t.spur.sout = ([unitStart] ++ h.digits.map unitData)[k]?) ∧
        (h.digits.length < k → (∀ n, s.merge.tx ≠ .send .spurOut n) →
          t.spur.tx = .fill 0 ∧ t.spur.sout = unitEnd ∧ t.spur.queue = rest ∧
          (s.merge.tx = .fill 0 →
            ∃ u, exec .spurFrameDeparts s = .next u ∧
              t = { u with merge := { u.merge with tx := .fill 1, dout := unitIdle }, choices := t.choices }))) ∧
      (s.merge.tx = .fill 0 → t.merge.tx = .fill 1 ∧ t.merge.dout = unitIdle) ∧
      (s.spur.tx = .fill 0 → t.spur.tx = .fill 1 ∧ t.spur.sout = unitIdle) ∧
      (∀ k, s.merge.tx = .fill (k + 1) → t.merge.dout = unitIdle ∧
        ((∀ x n, s.spur.tx ≠ .send x n) →
          ∃ u, exec (.transmitterReady .downstream) s = .next u ∧ t = { u with spur := t.spur, choices := t.choices })) ∧
      (∀ k, s.spur.tx = .fill (k + 1) → (∀ n, s.merge.tx ≠ .send .spurOut n) →
        ∃ u, exec (.transmitterReady .spur) s = .next u ∧ t.spur = u.spur) ∧
      (s.merge.tx = .ready → (∀ x n, s.spur.tx ≠ .send x n) → t = { s with
        merge := { s.merge with dout := unitIdle }, spur := t.spur, choices := t.choices }) ∧
      (s.spur.tx = .ready → (∀ n, s.merge.tx ≠ .send .spurOut n) → t.spur = { s.spur with sout := unitIdle })

/-! ## Resets -/

/-- The power-on columns of R12, R15, R34, R61, R79, R81, R102, R110, R134, R137 and R171, with the straps of R2 and R5: what the
release of RESET leaves. -/
def Obligations.PowerOnResetSetsEveryBlock : Prop :=
  ∀ (rate : BitVec 2) (adr : Addr) (pins : BitVec 12) (s : State),
    ∃ t, exec (.powerOnReset rate adr pins) s = .next t ∧
      t.rate = rate ∧ t.adr = adr ∧ t.resetLow = false ∧
      t.upRx = { state := .hunt, buffer := [] } ∧ t.spurRx = { state := .hunt, buffer := [] } ∧ t.gapCount = 0 ∧
      (∀ a, t.map.bankA.entry a = Entry.zero ∧ t.map.bankB.entry a = Entry.zero) ∧
      (∀ p i, t.map.bankA.pattern p i = 0#8 ∧ t.map.bankB.pattern p i = 0#8) ∧
      t.map.bankA.valid = 0#8 ∧ t.map.bankB.valid = 0#8 ∧ t.map.active = .a ∧ t.map.generation = 0#4 ∧
      t.run = { isOpen := false, dest := 0x00#7, cell := 0#4, adjustTaken := false } ∧
      t.merge.transit = [] ∧ t.merge.spurReturn = [] ∧ t.merge.insertion = [] ∧ t.merge.pointer = 0 ∧
      t.merge.tx = .fill 0 ∧ t.spur.tx = .fill 0 ∧ t.spur.queue = [] ∧ t.spur.state = .disabled ∧
      t.spur.watchTime = 4#4 ∧ t.spur.watchCount = 0 ∧ t.spur.restoreCount = 0 ∧
      (∀ l : Fin 12, t.line.lines[l] =
        { mode := .input, edge := .falling, hold := 1#4, sampled := pins.getLsbD l.val, run := 0#4,
          qualified := pins.getLsbD l.val, retire := false }) ∧
      (∀ l : Fin 12, t.line.catchOf (pinLine l) = { state := .none, c := 0#4, n := 0#4 }) ∧
      t.line.catchOf pseudoLine = { state := .armed, c := 0#4, n := 0#4 } ∧
      (∀ i : Fin 3, t.line.latches[i] = 0#4) ∧ t.line.reportMode = .poll ∧ t.line.reportAddr = 0x00#7 ∧
      t.line.sampleCode = 1#2 ∧ t.line.eventSeq = 0#4 ∧
      t.mgmt = { manager0 := none, manager1 := none, reply := .free, last := none, commit := none } ∧
      t.sup.up = .live ∧ t.sup.silenceCount = 0 ∧ t.sup.restoreCount = 0 ∧ t.sup.lastUp = .live ∧
      t.sup.lastSpur = .disabled ∧ t.sup.latches = 0#8 ∧ (∀ c, t.sup.countOf c = 0#8) ∧ t.sup.policy = .forward ∧
      t.sup.gap = 0#4 ∧ t.sup.silenceTime = 4#4 ∧ t.due = [] ∧ t.pending = s.pending

/-- R15, and assumption log 5: while RESET is held low both outputs send IDLE, a frame in transmission is cut short, and the part
does nothing but wait for the release. -/
def Obligations.ResetHeldLowStopsThePart : Prop :=
  (∀ s : State, s.Quiet →
    exec .resetAsserted s = .next
      { s with
        resetLow := true
        merge := { s.merge with tx := .fill 0, dout := unitIdle }
        spur := { s.spur with tx := .fill 0, sout := unitIdle } }) ∧
  ∀ (s : State) (c : Instr), s.resetLow = true → (∀ rate adr pins, c ≠ .powerOnReset rate adr pins) →
    exec c s = .next s

/-- R125, R126, R132: the lines of `v` are those of `u` once the frames `lost` have been discarded. `ls` are the lines of the EVENT
that the discards cause; there are none where they cause no EVENT. -/
def recordsDiscarded (u v : State) (lost : List Held) (ls : List (Fin 13)) : Prop :=
  LinesMoved u v (discardMove u.line) (taggedLines lost) (∃ h ∈ lost, h.kind = .event ∧ ∃ x, h.tag = .report x) ls ∧
  LinesReleased u v (taggedLines lost)

/-- The condition tags of frames (R95). -/
def conditionTags (hs : List Held) : List ConditionTag :=
  hs.filterMap fun h =>
    match h.tag with
    | .condition c => some c
    | .report _ => none
    | .none => none

/-- R165: a condition report record once the BREAK that replaced `old` and reported `new` has been discarded (where the record has
been changed and changed back since the build, this is assumption log 17). -/
def recordReverted {α : Type} [DecidableEq α] (record new old : α) : α := if record = new then old else record

/-- The frames that a TRAFFIC reset discards (R101, R111). -/
def heldInQueues (s : State) : List Held :=
  s.merge.transit ++ s.merge.spurReturn ++ s.merge.insertion ++ s.spur.queue

/-- R12, R35, R89, R101, R111, R125, R126, R132, R135, R148, R164, R165, R171: a TRAFFIC reset empties the queues of frames, leaves
the settings, and is answered OK. A discarded BREAK sets its records back and R164 is examined. Every line that a discarded frame
reported is back in CAUGHT with its counts merged, or released where it is retired, and no other line moves, but that in report
mode EVENT the moves may have an EVENT built. That no grant is made inside the reset, so that a READY transmitter is granted the
reply before an EVENT or a BREAK that the reset builds, is assumption log 11. -/
def Obligations.TrafficResetFlushesTheQueues : Prop :=
  ∀ (s : State) (q : Requester), s.Manages q →
    ∃ t, exec (.resetTraffic q) s = .next t ∧
      t.merge.transit = [] ∧ t.merge.spurReturn = [] ∧ t.spur.queue = [] ∧ t.merge.pointer = 0 ∧
      (∀ h ∈ t.merge.insertion, h.kind = .event ∨ h.kind = .breakReport) ∧
      (if s.merge.tx = .ready then
        t.merge.tx = .send .reply 0 ∧ t.mgmt.reply = .sending (replyDigits s q.src q.seq [0#4, 0#4])
      else
        (∃ n, t.merge.tx = .fill n) ∧ t.mgmt.reply = .full (replyDigits s q.src q.seq [0#4, 0#4])) ∧
      t.mgmt.last = some { src := q.src, seq := q.seq, command := 0#4, payload := [0#4, 0#4] } ∧
      t.mgmt.manager0 = s.mgmt.manager0 ∧ t.mgmt.manager1 = s.mgmt.manager1 ∧ t.mgmt.commit = none ∧
      t.gapCount = 0 ∧ t.run = .closed ∧ t.map = s.map ∧
      t.upRx = ((s.heard q.port).upRx).abandon ∧ t.spurRx = ((s.heard q.port).spurRx).abandon ∧
      t.spur = { (s.heard q.port).spur with queue := [], tx := s.spur.tx.abort } ∧
      t.sup.latches = s.sup.latches ∧ t.sup.counters = s.sup.counters ∧ t.sup.up = s.sup.up ∧
      t.sup.policy = s.sup.policy ∧ t.sup.gap = s.sup.gap ∧ t.sup.silenceTime = s.sup.silenceTime ∧
      t.line.latches = s.line.latches ∧ t.line.reportMode = s.line.reportMode ∧
      t.line.reportAddr = s.line.reportAddr ∧ t.line.sampleCode = s.line.sampleCode ∧
      (∀ l : Fin 12, { t.line.lines[l] with retire := false } = { s.line.lines[l] with retire := false }) ∧
      t.rate = s.rate ∧ t.adr = s.adr ∧
      (ReportingLaw s → s.line.reportMode = .poll →
        (∀ l : Fin 12, t.line.catchOf (pinLine l) =
          if pinLine l ∈ s.reportedLines then
            if (s.line.lines[l]).retire then
              { state := if (s.line.lines[l]).mode = .catching then .armed else .none, c := 0#4, n := 0#4 }
            else
              { state := .caught
                c := addUpTo15 (s.line.catchOf (pinLine l)).c (s.line.catchOf (pinLine l)).n, n := 0#4 }
          else s.line.catchOf (pinLine l)) ∧
        (∀ l : Fin 12, (t.line.lines[l]).retire =
          ((s.line.lines[l]).retire && !decide (pinLine l ∈ s.reportedLines))) ∧
        t.line.catchOf pseudoLine =
          if pseudoLine ∈ s.reportedLines then
            { state := .caught
              c := addUpTo15 (s.line.catchOf pseudoLine).c (s.line.catchOf pseudoLine).n, n := 0#4 }
          else s.line.catchOf pseudoLine) ∧
      (ReportingLaw s →
        ∃ ls, recordsDiscarded { s with merge := { s.merge with insertion := [] } } t (heldInQueues s) ls) ∧
      ∀ (tag : Option ConditionTag) (up : UpState) (spur : SpurState), conditionTags (heldInQueues s) = tag.toList →
        up = (match tag with
          | none => s.sup.lastUp
          | some c => recordReverted s.sup.lastUp c.newUp c.oldUp) →
        spur = (match tag with
          | none => s.sup.lastSpur
          | some c => recordReverted s.sup.lastSpur c.newSpur c.oldSpur) →
        if s.line.reportAddr ≠ s.adr ∧
            (s.sup.up ≠ up ∨ s.spur.state ≠ .disabled ∧ s.spur.state ≠ spur) then
          t.sup.lastUp = s.sup.up ∧ t.sup.lastSpur = s.spur.state ∧ t.inserted .breakReport = 1 ∧
          ∃ h ∈ t.merge.insertion,
            h.digits = (breakFrame s.adr s.line.reportAddr s.sup.up s.spur.state s.map.generation).digits ∧
            h.tag = .condition { oldUp := up, oldSpur := spur, newUp := s.sup.up, newSpur := s.spur.state }
        else t.sup.lastUp = up ∧ t.sup.lastSpur = spur ∧ t.inserted .breakReport = 0

/-- The FULL columns of R12, R34, R61, R79, R89, R102, R110, R134, R148 and R171: every register at its FULL value, and the
upstream state, its counts and the straps kept. The BREAK of a SILENT part is built inside the reset, and that a READY transmitter
is granted the reply before it is assumption log 11. -/
def Obligations.FullResetSetsEveryBlock : Prop :=
  ∀ (s : State) (q : Requester), s.Manages q →
    ∃ t, exec (.resetFull q) s = .next t ∧
      t.map = .reset ∧ t.run = .closed ∧ t.gapCount = 0 ∧
      t.upRx = ((s.heard q.port).upRx).abandon ∧ t.spurRx = .reset ∧
      t.merge.transit = [] ∧ t.merge.spurReturn = [] ∧ t.merge.pointer = 0 ∧
      (s.sup.up = .live ∨ s.adr = 0x00#7 →
        t.merge.insertion = [] ∧ t.sup.lastUp = .live ∧ t.sup.lastSpur = .disabled) ∧
      (s.sup.up = .silent → s.adr ≠ 0x00#7 →
        t.merge.insertion =
          [{ digits := (breakFrame s.adr 0x00#7 .silent .disabled 0#4).digits
             tag := .condition { oldUp := .live, oldSpur := .disabled, newUp := .silent, newSpur := .disabled } }] ∧
        t.sup.lastUp = .silent ∧ t.sup.lastSpur = .disabled) ∧
      t.spur = { s.spur with
        state := .disabled, watchTime := 4#4, watchCount := 0, restoreCount := 0, queue := [], tx := s.spur.tx.abort } ∧
      t.line = LineBlock.reset (fun l => (s.line.lines[l]).sampled) ∧
      (if s.merge.tx = .ready then
        t.merge.tx = .send .reply 0 ∧ t.mgmt.reply = .sending (replyDigits s q.src q.seq [0#4, 0#4])
      else
        (∃ n, t.merge.tx = .fill n) ∧ t.mgmt.reply = .full (replyDigits s q.src q.seq [0#4, 0#4])) ∧
      t.mgmt.last = some { src := q.src, seq := q.seq, command := 0#4, payload := [0#4, 0#4] } ∧
      t.mgmt.manager0 = none ∧ t.mgmt.manager1 = none ∧ t.mgmt.commit = none ∧
      t.sup.silenceCount = (s.heard q.port).sup.silenceCount ∧ t.sup.restoreCount = s.sup.restoreCount ∧
      t.sup.latches = 0#8 ∧ (∀ c, t.sup.countOf c = 0#8) ∧ t.sup.policy = .forward ∧ t.sup.gap = 0#4 ∧
      t.sup.silenceTime = 4#4 ∧ t.sup.up = s.sup.up ∧ t.rate = s.rate ∧ t.adr = s.adr

/-! ## Receivers -/

/-- R1: the class of a unit follows its mark flag and value, and a receiver acts on a unit according to its class alone. -/
def Obligations.UnitsActByTheirClass : Prop :=
  (∀ v, classOf { mark := false, value := v } = .data v) ∧
  classOf { mark := true, value := 0x0#4 } = .start ∧ classOf { mark := true, value := 0x8#4 } = .stop ∧
  classOf { mark := true, value := 0xF#4 } = .idle ∧
  (∀ v, v ≠ 0x0#4 → v ≠ 0x8#4 → v ≠ 0xF#4 → classOf { mark := true, value := v } = .stray) ∧
  ∀ (s : State) (p : Port) (u v : LineUnit), classOf u = classOf v →
    exec (.receiveUnit p u) s = exec (.receiveUnit p v) s

/-- R8, R10, R11, R12 (item 5) and R34: a unit that reaches a receiver in HUNT or SKIP. That the G-th IDLE of a run's gap, and the
64th IDLE of a restore, make the event due and leave the run and the state until that event is taken is assumption log 4. -/
def Obligations.UnitsBetweenFrames : Prop :=
  ∀ (s : State) (p : Port) (u : LineUnit), s.Quiet → (s.rx p).state ≠ .assemble →
    (p = .spur → s.spur.state = .disabled → exec (.receiveUnit p u) s = .next s) ∧
    ((p = .spur → s.spur.state ≠ .disabled) →
      (classOf u = .start →
        exec (.receiveUnit p u) s = .next ((s.noted p false).setRx p { state := .assemble, buffer := [] })) ∧
      (classOf u ≠ .start → classOf u ≠ .idle → (s.rx p).state = .skip →
        exec (.receiveUnit p u) s = .next (s.noted p false)) ∧
      (classOf u ≠ .start → classOf u ≠ .idle → (s.rx p).state = .hunt →
        ∃ t, exec (.receiveUnit p u) s = .next t ∧ Reported (s.noted p false) t .malformed .lineError) ∧
      (classOf u = .idle → p = .upstream →
        ∃ t, exec (.receiveUnit p u) s = .next t ∧
          t = { s.noted p true with gapCount := min (s.gapCount + 1) 63, due := t.due } ∧
          (Due.runGapExpiry ∈ t.due ↔ s.run.isOpen = true ∧ 4 * s.sup.gap.toNat ≤ min (s.gapCount + 1) 63) ∧
          (Due.upstreamRestore ∈ t.due ↔ s.sup.up = .silent ∧ 64 ≤ s.sup.restoreCount + 1)) ∧
      (classOf u = .idle → p = .spur →
        ∃ t, exec (.receiveUnit p u) s = .next t ∧ t = { s.noted p true with due := t.due } ∧
          (Due.spurRestore ∈ t.due ↔ s.spur.state = .opened ∧ 64 ≤ s.spur.restoreCount + 1)))

/-- The part once an IDLE has cut short a frame under assembly, which is then taken: on the upstream input the gap count is 0 and
the run is closed (R9, R34), and the IDLE counts towards a restore (R106, R162). -/
def idleCutShort (s : State) (p : Port) : State :=
  match p with
  | .upstream => { s.noted .upstream true with
      upRx := .reset, gapCount := 0, run := .closed
      due := if s.sup.up = .silent ∧ 64 ≤ s.sup.restoreCount + 1 then [.upstreamRestore] else [] }
  | .spur => { s.noted .spur true with
      spurRx := .reset
      due := if s.spur.state = .opened ∧ 64 ≤ s.spur.restoreCount + 1 then [.spurRestore] else [] }

/-- R9 and R34: a unit that reaches a receiver in ASSEMBLE, but for the END of a frame, which is a taking. That a restore which the
IDLE brings about is due, and not yet made, is assumption log 4. -/
def Obligations.UnitsInsideAFrame : Prop :=
  ∀ (s : State) (p : Port) (u : LineUnit) (ds : List Digit), s.Quiet → s.rx p = { state := .assemble, buffer := ds } →
    (p = .spur → s.spur.state ≠ .disabled) →
    (∀ d, classOf u = .data d → ds.length < 24 →
      exec (.receiveUnit p u) s = .next ((s.noted p false).setRx p { state := .assemble, buffer := ds ++ [d] })) ∧
    (s.mgmt.commit = none →
      (∀ d, classOf u = .data d → 24 ≤ ds.length →
        ∃ t, exec (.receiveUnit p u) s = .next t ∧
          Reported ((s.arrived p { state := .skip, buffer := [] }).withoutRun p) t .malformed .lineError) ∧
      (classOf u = .start →
        ∃ t, exec (.receiveUnit p u) s = .next t ∧
          Reported ((s.arrived p { state := .assemble, buffer := [] }).withoutRun p) t .malformed .lineError) ∧
      (classOf u = .stray →
        ∃ t, exec (.receiveUnit p u) s = .next t ∧
          Reported ((s.arrived p { state := .hunt, buffer := [] }).withoutRun p) t .malformed .lineError) ∧
      (classOf u = .idle →
        ∃ t, exec (.receiveUnit p u) s = .next t ∧ Reported (idleCutShort s p) t .malformed .lineError))

/-- The commands of a list of units arriving one after another on an input. -/
def receiveAll (s : State) (p : Port) : List LineUnit → Host.Outcome State Fault Refusal
  | [] => .next s
  | u :: us =>
    match exec (.receiveUnit p u) s with
    | .next t => receiveAll t p us
    | o => o

/-- R16, R17, R18: the requester, the kind digit and the payload of the own frame that a row stands for. -/
def ownFrameOf : Instr → Option (Requester × Digit × List Digit)
  | .ownWrite q cell values => some (q, 0x0#4, cell :: values)
  | .ownAdjust q cell masks => some (q, 0x1#4, cell :: masks)
  | .ownRead q cell count masks => some (q, 0x2#4, cell :: count :: masks)
  | .resetTraffic q => some (q, 0x8#4, [0x0#4, 1#4])
  | .resetFull q => some (q, 0x8#4, [0x0#4, 2#4])
  | .loadEntry q row col e =>
    some (q, 0x8#4, [0x1#4, row, col, e.action, e.selector, e.rowModifier, e.columnStep, e.options, e.page])
  | .loadBlock q row col last e =>
    some (q, 0x8#4, [0x2#4, row, col, last, e.action, e.selector, e.rowModifier, e.columnStep, e.options, e.page])
  | .loadPatterns q page ih il count patterns =>
    some (q, 0x8#4, [0x3#4, page, ih, il, count] ++ patterns.flatMap byteDigits)
  | .copyActive q => some (q, 0x8#4, [0x4#4])
  | .commit q => some (q, 0x8#4, [0x5#4])
  | .readEntry q bank row col => some (q, 0x8#4, [0x6#4, bank, row, col])
  | .readPatterns q bank page ih il count => some (q, 0x8#4, [0x7#4, bank, page, ih, il, count])
  | .status q => some (q, 0x8#4, [0x8#4])
  | .readCounters q group => some (q, 0x8#4, [0x9#4, group])
  | .clearFaultLatches q both => some (q, 0x8#4, [0xA#4, if both then 3#4 else 1#4])
  | .clearCounters q both => some (q, 0x8#4, [0xA#4, if both then 3#4 else 2#4])
  | .setLine q line mode edge hold => some (q, 0x8#4, [0xB#4, line, mode, edge, hold])
  | .setReporting q mode row col code => some (q, 0x8#4, [0xC#4, mode, row, col, code])
  | .setSpurEnable q watch => some (q, 0x8#4, [0xD#4, 1#4, watch])
  | .setSpurDisable q watch => some (q, 0x8#4, [0xD#4, 0#4, watch])
  | .setOptions q policy gap silence => some (q, 0x8#4, [0xE#4, policy, gap, silence])
  | .setManager q slot present row col => some (q, 0x8#4, [0xF#4, slot, present, row, col])
  | .powerOnReset .. | .receiveUnit .. | .runGapExpiry | .takeFrame .. | .swap | .transmitterReady _ | .frameDeparts
  | .spurFrameDeparts | .upstreamSilence | .upstreamRestore | .spurWatchExpiry | .spurRestore | .lineSample _
  | .serviceTick | .resetAsserted => none

/-- R9, R14, R20: the units of a frame, received one after another, do what the taking of the whole frame does; and in every state a
row named after an own frame does what the taking of that frame does. That a whole-frame command stands for START and then the
completion, from any state of the receiver, and an own-frame row for its frame's arriving whole, is assumption log 9. -/
def Obligations.FrameIsTakenAsItsUnits : Prop :=
  (∀ (s : State) (p : Port) (ds : List Digit), s.Quiet → ds.length ≤ 24 →
    receiveAll s p (lineUnits ds) = exec (.takeFrame p .ended ds) s) ∧
  ∀ (s : State) (c : Instr) (q : Requester) (kind : Digit) (payload : List Digit),
    ownFrameOf c = some (q, kind, payload) →
    exec c s = exec
      (.takeFrame q.port .ended
        (Frame.digits { kind := kind, dst := s.adr, src := q.src, seq := q.seq, payload := payload })) s

/-! ## Frames and their checks -/

/-- R3, R4, R21, R22: a completed frame is intact exactly when it ended and its digits are those of a frame of at most 15 payload
digits, in the layout of R3, with the check of R4. -/
def Obligations.IntactExactlyWhenWellFormed : Prop :=
  ∀ (e : Ending) (ds : List Digit) (f : Frame),
    classify e ds = .intact f ↔ e = .ended ∧ f.payload.length ≤ 15 ∧ ds = f.digits

/-- R21: every malformed frame is dropped and counted once, at a receiver between frames with no commit pending. That TAKE_FRAME
leaves the receiver in HUNT after a truncated frame, and the restore counts as its START left them, is assumption log 9. -/
def Obligations.MalformedFramesAreDropped : Prop :=
  ∀ (s : State) (p : Port) (e : Ending) (ds : List Digit), s.Quiet → s.Between p → MalformedFrame e ds →
    ∃ t, exec (.takeFrame p e ds) s = .next t ∧
      Reported ((s.arrived p (afterEnding e)).withoutRun p) t .malformed .lineError

/-- R22: a frame whose check does not verify is counted, and is forwarded as received or dropped, as the damaged policy says. -/
def Obligations.DamagedFramesFollowThePolicy : Prop :=
  ∀ (s : State) (p : Port) (ds : List Digit), s.Quiet → s.Between p → ¬MalformedFrame .ended ds →
    checkVerifies ds = false →
    ∃ u t, exec (.takeFrame p .ended ds) s = .next t ∧
      Reported ((s.arrived p .reset).withoutRun p) u .damaged .damageSeen ∧
      (s.sup.policy = .drop → t = u) ∧
      (s.sup.policy = .forward →
        Claimed u t (match p with | .upstream => .transit | .spur => .spurReturn) [{ digits := ds, tag := .none }])

/-- R23 and R24: the intact frames that stop at stages 3 and 4 without reaching a block. -/
def Obligations.OwnFramesThatStopAtIntake : Prop :=
  ∀ (s : State) (p : Port) (f : Frame), s.Quiet → s.Hears p → s.adr ≠ Config.broadcast → f.payload.length ≤ 15 →
    (f.src = s.adr →
      ∃ t, exec (.takeFrame p .ended f.digits) s = .next t ∧ Counted (s.heard p) t .returned) ∧
    (f.src ≠ s.adr → f.dst = s.adr → f.kind ≠ 0x0#4 → f.kind ≠ 0x1#4 → f.kind ≠ 0x2#4 → f.kind ≠ 0x8#4 →
      ∃ t, exec (.takeFrame p .ended f.digits) s = .next t ∧ Counted (s.heard p) t .misdirected) ∧
    (f.src ≠ s.adr → f.dst = s.adr →
      ((f.kind = 0x0#4 ∨ f.kind = 0x1#4 ∨ f.kind = 0x8#4) ∧ f.payload = [] ∨
        f.kind = 0x2#4 ∧ (f.payload.length < 2 ∨ f.payload.getD 1 0#4 = 0#4)) →
      ∃ t, exec (.takeFrame p .ended f.digits) s = .next t ∧ Reported (s.heard p) t .malformed .lineError)

/-- R33, R26 and R6: an intact frame from the spur joins the spur return queue as received, and a frame of an unassigned kind from
upstream joins the transit queue as received. -/
def Obligations.UninterpretedFramesAreSentOnUnchanged : Prop :=
  ∀ (s : State) (f : Frame), s.Quiet → s.Foreign f → f.payload.length ≤ 15 →
    (s.Hears .spur →
      ∃ t, exec (.takeFrame .spur .ended f.digits) s = .next t ∧
        Claimed (s.heard .spur) t .spurReturn [{ digits := f.digits, tag := .none }]) ∧
    (s.Hears .upstream → 12 ≤ f.kind.toNat →
      ∃ t, exec (.takeFrame .upstream .ended f.digits) s = .next t ∧
        Claimed (s.heard .upstream) t .transit [{ digits := f.digits, tag := .none }])

/-! ## The address map, conversion and the run filter -/

/-- R42: the kinds that a kind selector names, of the twelve assigned ones. -/
def named (selector : BitVec 2) (kind : Digit) : Prop :=
  kind.toNat ≤ 11 ∧
  (selector = 0#2 ∨
    (selector = 1#2 ∨ selector = 3#2) ∧ (kind = 0x0#4 ∨ kind = 0x1#4 ∨ kind = 0x2#4) ∨
    (selector = 2#2 ∨ selector = 3#2) ∧ (kind = 0x4#4 ∨ kind = 0x5#4))

/-- A frame as a queue holds it with no tag. -/
def untagged (f : Frame) : Held := { digits := f.digits, tag := .none }

/-- R69, R70: the pattern of a symbol of page digit `page` under the emphasis bit `emphasis`. -/
def patternShown (b : Bank) (page : Digit) (emphasis : Bool) (sym : Digit) : Pattern :=
  let p : Fin 8 := ⟨page.toNat % 8, Nat.mod_lt _ (by decide)⟩
  if 8 ≤ page.toNat then
    (if emphasis then b.pattern p sym.toNat ||| 0x80#8 else b.pattern p sym.toNat &&& 0x7F#8)
  else b.pattern p ((if emphasis then 16 else 0) + sym.toNat)

/-- R53: an entry that selects a SHOW asks for its translation. -/
abbrev asksTranslation (e : Entry) (f : Frame) : Prop := f.kind = 0x4#4 ∧ e.translate = true ∧ e.selector ≠ 1#2

/-- R71 to R75: the PATTERN frames of a SHOW under an entry; a SHOW of length 0 is left as it is. -/
def patternFrames (b : Bank) (e : Entry) (f : Frame) : List Frame :=
  match f.payload with
  | [] => [f]
  | attr :: symbols =>
    let pattern (sym : Digit) : List Digit := byteDigits (patternShown b e.page (attr.getLsbD 0) sym)
    if symbols.length ≤ 7 then [{ f with kind := 0x5#4, payload := attr :: symbols.flatMap pattern }]
    else
      [{ f with kind := 0x5#4, payload := (attr &&& 0xD#4) :: (symbols.take 7).flatMap pattern },
       { f with kind := 0x5#4, payload := (attr ||| 0x2#4) :: (symbols.drop 7).flatMap pattern }]

/-- R166: the part's hop record. -/
def hopFields (s : State) : List Digit :=
  [rowOf s.adr, colOf s.adr, s.map.generation,
   digitOfBits (s.sup.latches ≠ 0#8) (s.spur.state = .opened)
     (s.mgmt.manager0 ≠ none ∨ s.mgmt.manager1 ≠ none) (s.line.reportMode = .event)]

/-- R166: a legal TRACE with its hop count raised and, where it has room, with the part's hop record. -/
def traceSent (s : State) (f : Frame) : Frame :=
  match f.payload with
  | [] => f
  | n :: records =>
    { f with payload := BitVec.ofNat 4 (min (n.toNat + 1) 15) ::
        (if f.payload.length ≤ 11 then records ++ hopFields s else records) }

/-- R26, R53, R166: what a copy of a frame is sent as, once the copy's destination has been written: a SHOW that its entry
translates as its PATTERN frames, a legal TRACE with its hop record, and any other frame as it is. -/
def sentAs (s : State) (e : Entry) (f : Frame) : List Held :=
  if asksTranslation e f then (patternFrames s.map.activeBank e f).map untagged
  else if f.kind = 0xA#4 ∧ s.adr ≠ Config.broadcast ∧ f.payload.length ∈ [1, 5, 9, 13] then [untagged (traceSent s f)]
  else [untagged f]

/-- R75, R77: a SHOW that its entry translates is counted TRANSLATED, or, with length 0, is one malformed event, before its claims
(assumption log 10: R75 gives no order). -/
def translationNoted (s u : State) (e : Entry) (f : Frame) : Prop :=
  if asksTranslation e f then
    (if f.payload = [] then Reported s u .malformed .lineError else Counted s u .translated)
  else u = s

/-- A WRITE or ADJUST does not belong to the open run (R83). -/
def outsideTheRun (s : State) (f : Frame) : Prop :=
  s.run = .closed ∨ s.run.isOpen = true ∧ (f.dst ≠ s.run.dest ∨ f.payload.head? ≠ some s.run.cell)

/-- The frames of assigned kinds that the main path only maps and places. Left to statements of their own are a WRITE or ADJUST that
belongs to a run, can open one (one of length 0 cannot), or is broadcast to the part's cells (R83 to R85, R119), and a legal broadcast
POLL (R129). -/
def onlyMapped (s : State) (f : Frame) : Prop :=
  f.kind.toNat ≤ 11 ∧
  (f.kind = 0x0#4 ∨ f.kind = 0x1#4 →
    outsideTheRun s f ∧ (s.adr = Config.broadcast ∨ f.dst ≠ Config.broadcast) ∧
    (f.kind = 0x1#4 ∨ f.payload = [] ∨ s.sup.gap = 0#4 ∨ (s.map.activeBank.entry f.dst).absorbRuns = false)) ∧
  (f.kind = 0x6#4 →
    s.adr = Config.broadcast ∨ f.dst ≠ Config.broadcast ∨ f.payload.length ∉ [0, 4, 8, 12])

/-- R46, R47, R52, R53, R86, R166: a frame that its entry passes, or does not select, joins the transit queue, a translated SHOW as
PATTERN and a TRACE with its hop record; one that an ABSORB entry selects is counted MAP_ABSORBED; and either closes an open run.
That the malformed event of a SHOW of length 0 that asks for translation comes before the claim is assumption log 10. -/
def Obligations.PassAndAbsorbEntries : Prop :=
  ∀ (s : State) (f : Frame) (e : Entry), s.Quiet → s.Hears .upstream → s.Foreign f → f.payload.length ≤ 15 →
    onlyMapped s f → e = s.map.activeBank.entry f.dst →
    ((¬named e.selector f.kind ∨ e.action = .pass) →
      ∃ u t, exec (.takeFrame .upstream .ended f.digits) s = .next t ∧
        translationNoted (s.heard .upstream) u e f ∧ Claimed u t .transit (sentAs s e f)) ∧
    (named e.selector f.kind → e.action = .absorb →
      ∃ t, exec (.takeFrame .upstream .ended f.digits) s = .next t ∧ Counted (s.heard .upstream) t .mapAbsorbed)

/-- R48, R49, R31, R53: a REMAP entry that selects a frame rewrites its destination and recomputes its check; a frame whose column
leaves the row spills as the options and the spur state say; and no copy is sent to the own address. That the malformed event of a
SHOW of length 0 that asks for translation comes before the claim is assumption log 10, and a spill to a DISABLED spur, which log 6
speaks of, is left out. -/
def Obligations.RemapEntriesRewriteTheDestination : Prop :=
  ∀ (s : State) (f : Frame), s.Quiet → s.Hears .upstream → s.Foreign f → f.payload.length ≤ 15 → onlyMapped s f →
    named (s.map.activeBank.entry f.dst).selector f.kind → (s.map.activeBank.entry f.dst).action = .remap →
    ∀ e sum new, e = s.map.activeBank.entry f.dst → sum = ((colOf f.dst).toNat : Int) + e.columnStep.toInt →
      new = addrOf (rowOf f.dst ^^^ e.rowModifier.setWidth 4) (BitVec.ofInt 4 sum) →
      ∃ u t, exec (.takeFrame .upstream .ended f.digits) s = .next t ∧
        translationNoted (s.heard .upstream) u e f ∧
        (0 ≤ sum → sum ≤ 15 → (s.adr = Config.broadcast ∨ new ≠ s.adr) →
          Claimed u t .transit (sentAs s e { f with dst := new })) ∧
        (0 ≤ sum → sum ≤ 15 → s.adr ≠ Config.broadcast → new = s.adr → Counted u t .mapAbsorbed) ∧
        (sum < 0 ∨ 15 < sum →
          (new = Config.broadcast ∨ e.spill = false ∨ (s.spur.state = .opened ∧ e.fallbackAbsorb = true) →
            Counted (s.heard .upstream) t .mapAbsorbed) ∧
          (new ≠ Config.broadcast → e.spill = true →
            (s.spur.state = .closed ∨ s.spur.state = .opened ∧ e.fallbackAbsorb = false) →
            (s.adr ≠ Config.broadcast → new = s.adr → Counted u t .mapAbsorbed) ∧
            (s.adr = Config.broadcast ∨ new ≠ s.adr →
              Claimed u t (if s.spur.state = .closed then .spurOut else .transit)
                (sentAs s e { f with dst := new }))))

/-- R50, R51, R30, R53, R78, R166: a DIVERT entry sends a frame to the spur, or falls back while the spur is OPEN; a MIRROR entry
sends it on both outputs, each copy by its own claim and as the same digits. That the transit copy's claim comes first, and the
malformed event of a SHOW of length 0 that asks for translation before both, is assumption log 10, and a DISABLED spur, which log 6
speaks of, is left out. -/
def Obligations.DivertAndMirrorEntries : Prop :=
  ∀ (s : State) (f : Frame), s.Quiet → s.Hears .upstream → s.Foreign f → f.payload.length ≤ 15 → onlyMapped s f →
    named (s.map.activeBank.entry f.dst).selector f.kind →
    ∀ e, e = s.map.activeBank.entry f.dst →
      ∃ u t, exec (.takeFrame .upstream .ended f.digits) s = .next t ∧
        translationNoted (s.heard .upstream) u e f ∧
        (e.action = .divert →
          (s.spur.state = .closed → Claimed u t .spurOut (sentAs s e f)) ∧
          (s.spur.state = .opened → e.fallbackAbsorb = false → Claimed u t .transit (sentAs s e f)) ∧
          (s.spur.state = .opened → e.fallbackAbsorb = true → Counted (s.heard .upstream) t .mapAbsorbed)) ∧
        (e.action = .mirror →
          (s.spur.state = .closed →
            ∃ v, Claimed u v .transit (sentAs s e f) ∧ Claimed v t .spurOut (sentAs s e f)) ∧
          (s.spur.state = .opened → Claimed u t .transit (sentAs s e f)))

/-- R53, R68 to R75, R77: a SHOW that a translating PASS or REMAP entry keeps on the main loop becomes one PATTERN frame, or, with
eight symbols or more, two under one claim, with its destination, source and sequence, and TRANSLATED rises by one. A SHOW of
length 0 is one malformed event, and is placed untranslated; that the event comes before the claim is assumption log 10. -/
def Obligations.ShowsBecomePatterns : Prop :=
  (∀ (s : State) (f : Frame), s.Quiet → s.Hears .upstream → s.Foreign f → f.kind = 0x4#4 → f.payload = [] →
    (s.map.activeBank.entry f.dst).translate = true → (s.map.activeBank.entry f.dst).selector ≠ 1#2 →
    (s.map.activeBank.entry f.dst).action = .pass →
    ∃ u t, exec (.takeFrame .upstream .ended f.digits) s = .next t ∧
      Reported (s.heard .upstream) u .malformed .lineError ∧ Claimed u t .transit [untagged f]) ∧
  ∀ (s : State) (f : Frame) (attr : Digit) (symbols : List Digit) (e : Entry) (new : Addr),
    s.Quiet → s.Hears .upstream → s.Foreign f → f.kind = 0x4#4 → f.payload = attr :: symbols → symbols.length ≤ 14 →
    e = s.map.activeBank.entry f.dst → e.translate = true → e.selector ≠ 1#2 →
    (e.action = .pass ∧ new = f.dst ∨
      e.action = .remap ∧ e.inRange f.dst = true ∧ (s.adr = Config.broadcast ∨ new ≠ s.adr) ∧
        new = addrOf (rowOf f.dst ^^^ e.rowModifier.setWidth 4) (colOf f.dst + e.columnStep)) →
    ∀ pattern, pattern = (fun sym =>
        byteDigits (patternShown s.map.activeBank e.page (attr.getLsbD 0) sym)) →
      ∃ u t, exec (.takeFrame .upstream .ended f.digits) s = .next t ∧ Counted (s.heard .upstream) u .translated ∧
        (symbols.length ≤ 7 →
          Claimed u t .transit
            [untagged { kind := 0x5#4, dst := new, src := f.src, seq := f.seq,
                        payload := attr :: symbols.flatMap pattern }]) ∧
        (8 ≤ symbols.length →
          Claimed u t .transit
            [untagged { kind := 0x5#4, dst := new, src := f.src, seq := f.seq,
                        payload := (attr &&& 0xD#4) :: (symbols.take 7).flatMap pattern },
             untagged { kind := 0x5#4, dst := new, src := f.src, seq := f.seq,
                        payload := (attr ||| 0x2#4) :: (symbols.drop 7).flatMap pattern }])

/-- R83, R84: a WRITE to another station, taken with no run open and placed, opens a run where its entry absorbs runs and the run gap
is not 0, and opens none otherwise. The second clause says so of every WRITE outside the open run, whatever its entry's action and
its destination: it does what it does with a run gap of 0, and opens the run where a copy of it was placed. -/
def Obligations.PlacedWritesOpenRuns : Prop :=
  (∀ (s : State) (f : Frame) (cell : Digit) (values : List Digit) (e : Entry),
    s.Quiet → s.Hears .upstream → s.Foreign f → f.kind = 0x0#4 → f.payload = cell :: values → values.length ≤ 14 →
    f.dst ≠ Config.broadcast → s.run = .closed → e = s.map.activeBank.entry f.dst → e.action = .pass →
    ∃ t, exec (.takeFrame .upstream .ended f.digits) s = .next t ∧
      (s.Room .transit 1 →
        ∃ u, Placed (s.heard .upstream) u .transit [untagged f] ∧
          t = { u with run :=
            if e.absorbRuns = true ∧ s.sup.gap ≠ 0#4 then
              { isOpen := true, dest := f.dst, cell := cell, adjustTaken := false }
            else .closed }) ∧
      (¬s.Room .transit 1 → Reported (s.heard .upstream) t .transitOverrun .transitOverrun)) ∧
  ∀ (s : State) (f : Frame) (cell : Digit) (values : List Digit) (e : Entry),
    s.Quiet → s.Hears .upstream → s.Foreign f → f.kind = 0x0#4 → f.payload = cell :: values → values.length ≤ 14 →
    outsideTheRun s f → e = s.map.activeBank.entry f.dst →
    ∃ t, exec (.takeFrame .upstream .ended f.digits) { s with sup := { s.sup with gap := 0#4 } } = .next t ∧
      exec (.takeFrame .upstream .ended f.digits) s = .next
        { t with
          sup := { t.sup with gap := s.sup.gap }
          run :=
            if (t.merge.transit ≠ s.merge.transit ∨ t.spur.queue ≠ s.spur.queue) ∧ e.absorbRuns = true ∧
                e.action ≠ .absorb ∧ s.sup.gap ≠ 0#4 then
              { isOpen := true, dest := f.dst, cell := cell, adjustTaken := false }
            else .closed }

/-- R85, R90: in an open run a WRITE with the run's key is absorbed, the run's first ADJUST goes on and marks the run, and every
later one is absorbed. The second clause says of the first ADJUST, whatever its entry's action and its destination, that it does
what it does with no run open, and that the run stays open, marked. -/
def Obligations.RepeatsOfARunAreAbsorbed : Prop :=
  (∀ (s : State) (f : Frame) (rest : List Digit),
    s.Quiet → s.Hears .upstream → s.Foreign f → s.run.isOpen = true → f.dst = s.run.dest →
    f.payload = s.run.cell :: rest → rest.length ≤ 14 →
    ((f.kind = 0x0#4 ∨ f.kind = 0x1#4 ∧ s.run.adjustTaken = true) →
      ∃ t, exec (.takeFrame .upstream .ended f.digits) s = .next t ∧
        Counted (s.arrived .upstream .reset) t .runAbsorbed) ∧
    (f.kind = 0x1#4 → s.run.adjustTaken = false → (s.map.activeBank.entry f.dst).action = .pass →
      f.dst ≠ Config.broadcast →
      ∃ t, exec (.takeFrame .upstream .ended f.digits) s = .next t ∧
        Claimed { s.arrived .upstream .reset with run := { s.run with adjustTaken := true } } t .transit [untagged f])) ∧
  ∀ (s : State) (f : Frame) (rest : List Digit),
    s.Quiet → s.Hears .upstream → s.Foreign f → s.run.isOpen = true → f.dst = s.run.dest →
    f.payload = s.run.cell :: rest → rest.length ≤ 14 → f.kind = 0x1#4 → s.run.adjustTaken = false →
    ∃ t, exec (.takeFrame .upstream .ended f.digits) { s with run := .closed } = .next t ∧
      exec (.takeFrame .upstream .ended f.digits) s = .next { t with run := { s.run with adjustTaken := true } }

/-! ## Records and broadcast effects -/

/-- R28, R123, R129, R130: the copy of a broadcast POLL that is named for records joins a queue with a record for each of the lines
`ls`, which become REPORTING; or its claim is refused as one overrun, and no line moves. -/
def recordsPlaced (s t : State) (q : Target) (f : Frame) (ls : List (Fin 13)) : Prop :=
  (s.Room q 1 →
    ∃ b : LineBlock, Placed { s with line := b } t q
        [{ digits := Frame.digits { f with payload := f.payload ++ ls.flatMap fun l =>
            [rowOf s.adr, colOf s.adr, BitVec.ofNat 4 l.val, (s.line.catchOf l).c] }
           tag := if ls = [] then .none else .report ls }] ∧
      b = { s.line with catches := b.catches } ∧
      ∀ l, b.catchOf l =
        if l ∈ ls then { state := .reporting, c := (s.line.catchOf l).c, n := 0#4 } else s.line.catchOf l) ∧
  (¬s.Room q 1 → Reported s t (overrunOf q).1 (overrunOf q).2)

/-- R46, R50 to R52, R123, R129, R130: a legal broadcast POLL that finds room carries a record for each CAUGHT line, as far as it has
room, and those lines become REPORTING; a refused one changes no line. The transit copy carries them, or, where a DIVERT entry
sends the POLL to the spur alone, the spur-out copy; the spur-out copy of a mirrored POLL carries none. That the transit copy of a
mirrored POLL is claimed first, so that its records are of the lines CAUGHT before either claim, is the model's choice, assumption
log 10: a spur-out claim refused before it could have the pseudo-line among them. -/
def Obligations.BroadcastPollsCarryRecords : Prop :=
  ∀ (s : State) (f : Frame) (ls : List (Fin 13)) (e : Entry),
    s.Quiet → s.Hears .upstream → s.adr ≠ Config.broadcast → f.src ≠ s.adr → f.kind = 0x6#4 →
    f.dst = Config.broadcast → f.payload.length ∈ [0, 4, 8, 12] → e = s.map.activeBank.entry Config.broadcast →
    ls = ((List.finRange 13).filter fun l => (s.line.catchOf l).state = .caught).take ((15 - f.payload.length) / 4) →
    ∃ t, exec (.takeFrame .upstream .ended f.digits) s = .next t ∧
      (¬named e.selector f.kind ∨ e.action = .pass ∨
          s.spur.state = .opened ∧ (e.action = .mirror ∨ e.action = .divert ∧ e.fallbackAbsorb = false) →
        recordsPlaced (s.heard .upstream) t .transit f ls) ∧
      (named e.selector f.kind → e.action = .divert → s.spur.state = .closed →
        recordsPlaced (s.heard .upstream) t .spurOut f ls) ∧
      (named e.selector f.kind → e.action = .mirror → s.spur.state = .closed →
        ∃ u, recordsPlaced (s.heard .upstream) u .transit f ls ∧ Claimed u t .spurOut [untagged f]) ∧
      (named e.selector f.kind →
        e.action = .absorb ∨ e.action = .divert ∧ s.spur.state = .opened ∧ e.fallbackAbsorb = true →
        Counted (s.heard .upstream) t .mapAbsorbed)

/-- R166: a legal TRACE that the map passes leaves with its hop count raised and, where it has room, with the part's hop record.
PassAndAbsorbEntries, RemapEntriesRewriteTheDestination and DivertAndMirrorEntries say the same of the other actions. -/
def Obligations.TracesCarryTheHopRecord : Prop :=
  ∀ (s : State) (f : Frame) (n : Digit) (records : List Digit),
    s.Quiet → s.Hears .upstream → s.adr ≠ Config.broadcast → f.src ≠ s.adr → f.dst ≠ s.adr → f.kind = 0xA#4 →
    f.payload = n :: records → f.payload.length ∈ [1, 5, 9, 13] →
    (s.map.activeBank.entry f.dst).action = .pass →
    ∀ hop, hop = hopFields s →
      ∃ t, exec (.takeFrame .upstream .ended f.digits) s = .next t ∧
        Claimed (s.heard .upstream) t .transit
          [untagged (Frame.mk f.kind f.dst f.src f.seq
            (BitVec.ofNat 4 (min (n.toNat + 1) 15) ::
              (if f.payload.length ≤ 11 then records ++ hop else records)))]

/-- R114, R118: what the digits of a WRITE, or the masks of an ADJUST, for cell `cell` and those after it leave in the three output
latch cells. -/
def cellsAfter (before after : Vector Digit 3) (adjust : Bool) (cell : Digit) (vs : List Digit) : Prop :=
  ∀ i : Fin 3, after[i] =
    match vs[(BitVec.ofNat 4 i.val - cell).toNat]? with
    | some v => if adjust then before[i] ^^^ v else v
    | none => before[i]

/-- R27, R119: `t` is `u` once a broadcast WRITE or ADJUST has been applied to the part's output latches; one of length 0 names no
cell. -/
def appliedOnce (u t : State) (adjust : Bool) (payload : List Digit) : Prop :=
  match payload with
  | [] => t = u
  | cell :: vs =>
    t = { u with line := { u.line with latches := t.line.latches } } ∧
    cellsAfter u.line.latches t.line.latches adjust cell vs

/-- R27, R28, R119: a broadcast WRITE or ADJUST of one copy is placed and applied, or lost as one overrun and not applied. -/
def placedAndApplied (s t : State) (q : Target) (f : Frame) : Prop :=
  (s.Room q 1 → ∃ u, Placed s u q [untagged f] ∧ appliedOnce u t (f.kind = 0x1#4) f.payload) ∧
  (¬s.Room q 1 → Reported s t (overrunOf q).1 (overrunOf q).2)

/-- R27, R119: a broadcast WRITE or ADJUST that is placed, and belongs to no run and opens none, is applied once to the part's output
latches and sets no latch for other cells; one that is not placed changes no cell. A mirrored one is applied once where at least
one of its copies is placed; that its transit copy is claimed first is assumption log 10. PlacedWritesOpenRuns and
RepeatsOfARunAreAbsorbed reduce a WRITE that may open a run, and the first ADJUST of one, to these. -/
def Obligations.BroadcastWritesReachTheLatches : Prop :=
  ∀ (s : State) (f : Frame) (e : Entry),
    s.Quiet → s.Hears .upstream → s.adr ≠ Config.broadcast → f.src ≠ s.adr → (f.kind = 0x0#4 ∨ f.kind = 0x1#4) →
    f.dst = Config.broadcast → f.payload.length ≤ 15 → outsideTheRun s f → e = s.map.activeBank.entry Config.broadcast →
    (f.kind = 0x1#4 ∨ f.payload = [] ∨ s.sup.gap = 0#4 ∨ e.absorbRuns = false) →
    ∃ t, exec (.takeFrame .upstream .ended f.digits) s = .next t ∧
      (¬named e.selector f.kind ∨ e.action = .pass ∨
          s.spur.state = .opened ∧ (e.action = .mirror ∨ e.action = .divert ∧ e.fallbackAbsorb = false) →
        placedAndApplied (s.heard .upstream) t .transit f) ∧
      (named e.selector f.kind → e.action = .divert → s.spur.state = .closed →
        placedAndApplied (s.heard .upstream) t .spurOut f) ∧
      (named e.selector f.kind → e.action = .mirror → s.spur.state = .closed →
        ∃ u v, Claimed (s.heard .upstream) u .transit [untagged f] ∧ Claimed u v .spurOut [untagged f] ∧
          (s.Room .transit 1 ∨ s.Room .spurOut 1 → appliedOnce v t (f.kind = 0x1#4) f.payload) ∧
          (¬s.Room .transit 1 → ¬s.Room .spurOut 1 → t = v)) ∧
      (named e.selector f.kind →
        e.action = .absorb ∨ e.action = .divert ∧ s.spur.state = .opened ∧ e.fallbackAbsorb = true →
        Counted (s.heard .upstream) t .mapAbsorbed)

/-! ## Own frames of the line unit -/

/-- R118 and R24: an own WRITE stores its digits in the output latches it names, an own ADJUST combines its masks into them, and a
digit for any other cell is discarded, with LOCAL_ACCESS_ERROR set once. -/
def Obligations.OwnWritesAndAdjustsReachTheLatches : Prop :=
  ∀ (s : State) (q : Requester) (adjust : Bool) (cell : Digit) (vs : List Digit), s.Delivers q → vs.length ≤ 14 →
    ∃ (b : LineBlock) (t : State),
      exec (if adjust then .ownAdjust q cell vs else .ownWrite q cell vs) s = .next t ∧
      b = { s.line with latches := b.latches } ∧ cellsAfter s.line.latches b.latches adjust cell vs ∧
      ((∃ j, j < vs.length ∧ 2 < (cell + BitVec.ofNat 4 j).toNat) →
        Latched { s.heard q.port with line := b } t .localAccessError) ∧
      ((∀ j, j < vs.length → (cell + BitVec.ofNat 4 j).toNat ≤ 2) → t = { s.heard q.port with line := b })

/-- R118: the absent cells. -/
def absentCell (c : Digit) : Prop := c ∈ [3#4, 7#4, 0xB#4, 0xD#4, 0xE#4, 0xF#4]

/-- R120, R121, R94: an own READ within the REPLY allowance is answered by a REPLY with the cells' contents, masked while masks
last, and an absent cell among them sets LOCAL_ACCESS_ERROR once; beyond the allowance it is refused. That the REPLY is entered
before LOCAL_ACCESS_ERROR is set is assumption log 10. -/
def Obligations.OwnReadIsAnsweredOrRefused : Prop :=
  ∀ (s : State) (q : Requester) (cell count : Digit) (masks : List Digit),
    s.Delivers q → count ≠ 0#4 → masks.length ≤ 13 →
    (s.inserted .reply < 2 →
      ∃ u t, exec (.ownRead q cell count masks) s = .next t ∧
        Inserted (s.heard q.port) u
          (untagged { kind := 0x3#4, dst := q.src, src := s.adr, seq := q.seq
                      payload := (List.range count.toNat).map fun i =>
                        match masks[i]? with
                        | some m => s.cell (cell + BitVec.ofNat 4 i) &&& m
                        | none => s.cell (cell + BitVec.ofNat 4 i) }) ∧
        ((∃ j, j < count.toNat ∧ absentCell (cell + BitVec.ofNat 4 j)) → Latched u t .localAccessError) ∧
        ((∀ j, j < count.toNat → ¬absentCell (cell + BitVec.ofNat 4 j)) → t = u)) ∧
    (2 ≤ s.inserted .reply →
      ∃ t, exec (.ownRead q cell count masks) s = .next t ∧
        Reported (s.heard q.port) t .localRefused .localOverrun)

/-- R118: what each cell holds when it is read. -/
def Obligations.CellsShowTheLines : Prop :=
  ∀ s : State,
    (∀ i : Fin 3, s.cell (BitVec.ofNat 4 i.val) = s.line.latches[i]) ∧
    (∀ (i : Fin 3) (j : Fin 4) (l : Fin 12), l.val = 4 * i.val + j.val →
      (s.cell (BitVec.ofNat 4 (4 + i.val))).getLsbD j.val =
        match (s.line.lines[l]).mode with
        | .input => (s.line.lines[l]).qualified
        | .catching => (s.line.lines[l]).qualified
        | .output => (s.line.latches[i]).getLsbD j.val
        | .disabled => false) ∧
    (∀ (i : Fin 3) (j : Fin 4) (l : Fin 12), l.val = 4 * i.val + j.val →
      (s.cell (BitVec.ofNat 4 (8 + i.val))).getLsbD j.val =
        decide ((s.line.lines[l]).mode = .catching ∧ (s.line.catchOf (pinLine l)).state ≠ .armed)) ∧
    ((s.cell 0xC#4).getLsbD 0 = decide (s.sup.latches ≠ 0#8) ∧
      (s.cell 0xC#4).getLsbD 1 = decide (s.spur.state = .opened) ∧
      (s.cell 0xC#4).getLsbD 2 = decide (s.sup.up = .silent) ∧
      (s.cell 0xC#4).getLsbD 3 = decide (s.mgmt.manager0 ≠ none ∨ s.mgmt.manager1 ≠ none)) ∧
    ∀ c, absentCell c → s.cell c = 0#4

/-! ## Management commands -/

/-- R43: the six digits, in the order of R17, in which the map store keeps an entry loaded with these digits. -/
def storedDigits (e : EntryDigits) : List Digit :=
  let o := e.options
  let keeps (mask : Digit) := o &&& mask
  [ e.action,
    if e.action = 4#4 then 0#4 else e.selector,
    if e.action = 1#4 then e.rowModifier else 0#4,
    if e.action = 1#4 then e.columnStep else 0#4,
    match e.action.toNat with
    | 0 => keeps 0x3#4
    | 1 => if o.getLsbD 2 then keeps 0xF#4 else keeps 0x3#4
    | 2 => keeps 0xB#4
    | 3 => keeps 0x3#4
    | _ => 0#4,
    if e.action ≠ 4#4 ∧ o.getLsbD 0 = true then e.page else 0#4 ]

/-- R17: the entry digits whose values are in range. -/
def entryInRange (e : EntryDigits) : Prop := e.action.toNat ≤ 4 ∧ e.selector.toNat ≤ 3 ∧ e.rowModifier.toNat ≤ 7

/-- `m` is `n` but for the entries of the staging bank. -/
def sameButStagedEntries (n m : MapStore) : Prop :=
  m.active = n.active ∧ m.generation = n.generation ∧ m.activeBank = n.activeBank ∧
  m.stagingBank.valid = n.stagingBank.valid ∧ ∀ p i, m.stagingBank.pattern p i = n.stagingBank.pattern p i

/-- R43, R44, R146: LOAD ENTRY and LOAD BLOCK store the stored form of their entry in the staging bank, at the address, or from the
start address to the last column of its row, and nowhere else; and they are answered OK. -/
def Obligations.LoadsStoreStagedEntries : Prop :=
  ∀ (s : State) (q : Requester) (row col last : Digit) (e : EntryDigits),
    s.Manages q → BanksCanonical s → row.toNat ≤ 7 → entryInRange e →
    (∃ m, exec (.loadEntry q row col e) s =
        .next (State.answered { s.heard q.port with map := m } q.src q.seq 0x1#4 0#4 []) ∧
      sameButStagedEntries s.map m ∧
      (m.stagingBank.entry (addrOf row col)).toDigits = storedDigits e ∧
      ∀ a, a ≠ addrOf row col → m.stagingBank.entry a = s.map.stagingBank.entry a) ∧
    (col.toNat ≤ last.toNat →
      ∃ m, exec (.loadBlock q row col last e) s =
          .next (State.answered { s.heard q.port with map := m } q.src q.seq 0x2#4 0#4 []) ∧
        sameButStagedEntries s.map m ∧
        ∀ a,
          (rowOf a = row ∧ col.toNat ≤ (colOf a).toNat ∧ (colOf a).toNat ≤ last.toNat →
            (m.stagingBank.entry a).toDigits = storedDigits e) ∧
          (¬(rowOf a = row ∧ col.toNat ≤ (colOf a).toNat ∧ (colOf a).toNat ≤ last.toNat) →
            m.stagingBank.entry a = s.map.stagingBank.entry a))

/-- R64, R66, R146: LOAD PATTERNS writes its patterns in the page of the staging bank from the index on, sets that page's valid flag,
writes nothing else, and is answered OK. -/
def Obligations.LoadPatternsWritesOnePage : Prop :=
  ∀ (s : State) (q : Requester) (page ih il : Digit) (patterns : List Pattern) (index : Nat),
    s.Manages q → BanksCanonical s → page.toNat ≤ 7 → index = 16 * ih.toNat + il.toNat → 1 ≤ patterns.length →
    patterns.length ≤ 5 → index + patterns.length ≤ 32 →
    ∃ m, exec (.loadPatterns q page ih il (BitVec.ofNat 4 patterns.length) patterns) s =
        .next (State.answered { s.heard q.port with map := m } q.src q.seq 0x3#4 0#4 []) ∧
      m.active = s.map.active ∧ m.generation = s.map.generation ∧ m.activeBank = s.map.activeBank ∧
      (∀ a, m.stagingBank.entry a = s.map.stagingBank.entry a) ∧
      (∀ p : Fin 8, m.stagingBank.isValid p = (s.map.stagingBank.isValid p || decide (p.val = page.toNat))) ∧
      ∀ (p : Fin 8) (i : Nat), i < 32 →
        m.stagingBank.pattern p i =
          if p.val = page.toNat ∧ index ≤ i then
            (patterns[i - index]?).getD (s.map.stagingBank.pattern p i)
          else s.map.stagingBank.pattern p i

/-- R41, R66, R146: COPY ACTIVE makes the staging bank a copy of the active bank, pages and flags included, changes nothing else of
the map store, and is answered OK. -/
def Obligations.CopyActiveCopiesTheActiveBank : Prop :=
  ∀ (s : State) (q : Requester), s.Manages q →
    ∃ m, exec (.copyActive q) s =
        .next (State.answered { s.heard q.port with map := m } q.src q.seq 0x4#4 0#4 []) ∧
      m.activeBank = s.map.activeBank ∧ m.stagingBank = s.map.activeBank ∧ m.active = s.map.active ∧
      m.generation = s.map.generation

/-- R57: an entry fails a check of the table, with the check's reason digit. -/
def failsCheck (b : Bank) (own : Addr) (spur : SpurState) (a : Addr) (reason : Digit) : Prop :=
  let e := b.entry a
  let sum : Int := ((colOf a).toNat : Int) + e.columnStep.toInt
  let target := addrOf (rowOf a ^^^ e.rowModifier.setWidth 4) (BitVec.ofInt 4 sum)
  let check1 := a = 0x7F#7 ∧ e.action = .remap
  let check2 := e.action = .remap ∧ 0 ≤ sum ∧ sum ≤ 15 ∧ (target = own ∨ target = 0x7F#7)
  let check3 := spur = .disabled ∧ (e.action = .divert ∨ e.action = .mirror ∨ e.action = .remap ∧ e.spill = true)
  let check4 := e.translate = true ∧ b.valid.getLsbD (e.page.toNat % 8) = false
  (check1 ∧ reason = 4#4) ∨ (¬check1 ∧ check2 ∧ reason = 1#4) ∨ (¬check1 ∧ ¬check2 ∧ check3 ∧ reason = 2#4) ∨
  (¬check1 ∧ ¬check2 ∧ ¬check3 ∧ check4 ∧ reason = 3#4)

/-- R57: validation answers the first check that the entry of the lowest failing address fails, the own address skipped, or pass when
every entry passes every check. -/
def Obligations.ValidationFindsTheFirstFailure : Prop :=
  ∀ (b : Bank) (own : Addr) (spur : SpurState),
    (b.firstFault own spur = none ↔ ∀ a, a ≠ own → ∀ r, ¬failsCheck b own spur a r) ∧
    ∀ (r : Digit) (a : Addr), b.firstFault own spur = some (r, a) ↔
      a ≠ own ∧ failsCheck b own spur a r ∧ ∀ c, c < a → c ≠ own → ∀ x, ¬failsCheck b own spur c x

/-- R39, R58, R154, R156: a COMMIT whose staging bank fails validation is answered INCONSISTENT; one that passes swaps at once while
no frame is under assembly upstream, or the upstream state is SILENT, and is answered with the new generation; otherwise it
reserves the reply slot and waits. -/
def Obligations.CommitValidatesAndSwaps : Prop :=
  ∀ (s : State) (q : Requester), s.Manages q →
    (∀ r a, s.map.stagingBank.firstFault s.adr s.spur.state = some (r, a) →
      exec (.commit q) s =
        .next ((s.heard q.port).answered q.src q.seq 0x5#4 4#4 [r, rowOf a, colOf a])) ∧
    (s.map.stagingBank.firstFault s.adr s.spur.state = none →
      (q.port = .upstream ∨ s.upRx.state ≠ .assemble ∨ s.sup.up = .silent →
        ∃ m, exec (.commit q) s =
            .next (State.answered { s.heard q.port with map := m, run := .closed } q.src q.seq 0x5#4 0#4
              [s.map.generation + 1#4]) ∧
          m.activeBank = s.map.stagingBank ∧ m.stagingBank = s.map.activeBank ∧ m.active ≠ s.map.active ∧
          m.generation = s.map.generation + 1#4) ∧
      (q.port = .spur → s.upRx.state = .assemble → s.sup.up = .live →
        exec (.commit q) s =
          .next { s.heard q.port with
            mgmt := { s.mgmt with reply := .reserved, commit := some (q.src, q.seq) } }))

/-- R39, R40, R87, R155 to R157: a pending swap is due once the upstream receiver completes its frame, of any ending, and the frame is
taken under the old bank first; a frame from the spur leaves it pending; and a frame that cuts the awaited one short finds the swap
made. When the swap is taken the banks change roles, the generation rises, an open run closes and the COMMIT is answered. The run
gap's expiry closes the run and does nothing else. That these events are due until their own command or the next one takes them,
and that an event not due has not come about, is assumption log 4. -/
def Obligations.SwapAndRunGapExpiryTakeEffectWhenDue : Prop :=
  (∀ (s : State) (u : LineUnit) (ds : List Digit), s.Quiet → s.mgmt.commit.isSome = true → s.mgmt.reply = .reserved →
    (s.sup.up = .live → s.upRx = { state := .assemble, buffer := ds } →
      (∀ d, classOf u = .data d → 24 ≤ ds.length) →
      ∃ t, exec (.receiveUnit .upstream u) s = .next t ∧ t.due = [.swap] ∧ t.map = s.map ∧
        t.mgmt.commit = s.mgmt.commit ∧ t.mgmt.reply = .reserved ∧ t.upRx.buffer = [] ∧ t.gapCount = 0) ∧
    (s.spurRx = { state := .assemble, buffer := ds } →
      ∃ t, exec (.receiveUnit .spur u) s = .next t ∧ Due.swap ∉ t.due ∧ t.map = s.map ∧
        t.mgmt.commit = s.mgmt.commit ∧ t.mgmt.reply = .reserved)) ∧
  (∀ (s : State) (e : Ending) (ds : List Digit), s.Quiet → s.sup.up = .live → s.upRx.state = .assemble →
    s.mgmt.commit.isSome = true → MalformedFrame e ds →
    ∃ t, exec (.takeFrame .upstream e ds) s = .next t ∧ t.due = [] ∧ t.mgmt.commit = none ∧
      t.map.activeBank = s.map.stagingBank ∧ t.map.stagingBank = s.map.activeBank ∧ t.map.active ≠ s.map.active ∧
      t.map.generation = s.map.generation + 1#4) ∧
  (∀ (s : State) (src : Addr) (seq : Digit), s.resetLow = false → Due.swap ∈ s.due → s.mgmt.commit = some (src, seq) →
    ∃ m, exec .swap s =
        .next (State.answered
          { s with
            due := s.due.erase .swap, map := m, run := .closed, mgmt := { s.mgmt with commit := none } }
          src seq 0x5#4 0#4 [s.map.generation + 1#4]) ∧
      m.activeBank = s.map.stagingBank ∧ m.stagingBank = s.map.activeBank ∧ m.active ≠ s.map.active ∧
      m.generation = s.map.generation + 1#4) ∧
  (∀ s : State, s.resetLow = false → Due.runGapExpiry ∈ s.due →
    exec .runGapExpiry s = .next { s with due := s.due.erase .runGapExpiry, run := .closed }) ∧
  ∀ s : State, s.resetLow = false →
    (Due.swap ∉ s.due → exec .swap s = .next s) ∧ (Due.runGapExpiry ∉ s.due → exec .runGapExpiry s = .next s)

/-- R19, R45, R65, R147, R149, R150: READ ENTRY, READ PATTERNS, STATUS and READ COUNTERS are answered OK with what they read, and
change nothing. -/
def Obligations.ReadsAreAnsweredAndChangeNothing : Prop :=
  ∀ (s : State) (q : Requester), s.Manages q →
    (∀ bank row col : Digit, bank.toNat ≤ 1 → row.toNat ≤ 7 →
      exec (.readEntry q bank row col) s =
        .next ((s.heard q.port).answered q.src q.seq 0x6#4 0#4
          ((if bank = 1#4 then s.map.stagingBank else s.map.activeBank).entry (addrOf row col)).toDigits)) ∧
    (∀ (bank page ih il count : Digit) (index : Nat) (p : Fin 8), bank.toNat ≤ 1 → p.val = page.toNat →
      index = 16 * ih.toNat + il.toNat → 1 ≤ count.toNat → count.toNat ≤ 6 → index + count.toNat ≤ 32 →
      exec (.readPatterns q bank page ih il count) s =
        .next ((s.heard q.port).answered q.src q.seq 0x7#4 0#4
          ((List.range count.toNat).flatMap fun i =>
            byteDigits ((if bank = 1#4 then s.map.stagingBank else s.map.activeBank).pattern p (index + i))))) ∧
    exec (.status q) s =
      .next ((s.heard q.port).answered q.src q.seq 0x8#4 0#4
        [s.map.generation, (match s.sup.up with | .live => 0#4 | .silent => 1#4),
         (match s.spur.state with | .disabled => 0#4 | .closed => 1#4 | .opened => 2#4),
         digitOfBits (s.sup.isSet .transitOverrun) (s.sup.isSet .spurOverrun) (s.sup.isSet .localOverrun)
           (s.sup.isSet .mgmtOverrun),
         digitOfBits (s.sup.isSet .lineError) (s.sup.isSet .damageSeen) (s.sup.isSet .localAccessError)
           (s.sup.isSet .condition),
         (match s.line.reportMode with | .poll => 0#4 | .event => 1#4),
         BitVec.ofNat 4 ((if s.mgmt.manager0 = none then 0 else 1) + (if s.mgmt.manager1 = none then 0 else 1)),
         BitVec.ofNat 4 s.merge.transit.length]) ∧
    ∀ group : Digit, ∀ cs : List Counter,
      (group = 0#4 ∧ cs = [.damaged, .malformed, .transitOverrun, .spurOverrun] ∨
        group = 1#4 ∧ cs = [.runAbsorbed, .mapAbsorbed, .returned, .misdirected] ∨
        group = 2#4 ∧ cs = [.localRefused, .mgmtDropped, .changes, .translated]) →
      exec (.readCounters q group) s =
        .next ((s.heard q.port).answered q.src q.seq 0x9#4 0#4 (cs.flatMap fun c => byteDigits (s.sup.countOf c)))

/-- R150, R169: CLEAR clears the fault latches, the counters, or both, and nothing else; it is answered OK. -/
def Obligations.ClearClearsWhatItSelects : Prop :=
  ∀ (s : State) (q : Requester) (both : Bool), s.Manages q →
    ∃ zeros : Vector Count 12, (∀ i : Fin 12, zeros[i] = 0#8) ∧
      exec (.clearFaultLatches q both) s =
        .next (State.answered
          { s.heard q.port with sup := { (s.heard q.port).sup with
              latches := 0#8, counters := if both then zeros else s.sup.counters } }
          q.src q.seq 0xA#4 0#4 []) ∧
      exec (.clearCounters q both) s =
        .next (State.answered
          { s.heard q.port with sup := { (s.heard q.port).sup with
              latches := if both then 0#8 else s.sup.latches, counters := zeros } }
          q.src q.seq 0xA#4 0#4 [])

/-- R133, R151: SET LINE sets a line's mode, edge and hold, restarts its qualification without an edge, moves its catch state by the
table of R133, leaves every other line, and is answered OK. -/
def Obligations.SetLineSetsOneLine : Prop :=
  ∀ (s : State) (q : Requester) (l : Fin 12) (mode edge hold : Digit) (lm : LineMode) (le : Edge),
    s.Manages q → hold ≠ 0#4 →
    (mode = 0#4 ∧ lm = .disabled ∨ mode = 1#4 ∧ lm = .input ∨ mode = 2#4 ∧ lm = .catching ∨ mode = 3#4 ∧ lm = .output) →
    (edge = 0#4 ∧ le = .falling ∨ edge = 1#4 ∧ le = .rising ∨ edge = 2#4 ∧ le = .both) →
    CatchLaw s →
    ∃ b : LineBlock, exec (.setLine q (BitVec.ofNat 4 l.val) mode edge hold) s =
        .next (State.answered { s.heard q.port with line := b } q.src q.seq 0xB#4 0#4 []) ∧
      b = { s.line with lines := b.lines, catches := b.catches } ∧
      (∀ k : Fin 12, k ≠ l → b.lines[k] = s.line.lines[k]) ∧
      (∀ k : Fin 13, k ≠ pinLine l → b.catchOf k = s.line.catchOf k) ∧
      (∃ retire : Bool, b.lines[l] =
          { mode := lm, edge := le, hold := hold, sampled := (s.line.lines[l]).sampled, run := 0#4,
            qualified := (s.line.lines[l]).sampled, retire := retire } ∧
        match (s.line.catchOf (pinLine l)).state with
        | .none =>
          retire = false ∧ b.catchOf (pinLine l) =
            if lm = .catching then { state := .armed, c := 0#4, n := 0#4 } else s.line.catchOf (pinLine l)
        | .armed =>
          retire = false ∧ b.catchOf (pinLine l) =
            if lm = .catching then s.line.catchOf (pinLine l) else { state := .none, c := 0#4, n := 0#4 }
        | .caught =>
          retire = false ∧ b.catchOf (pinLine l) =
            if lm = .catching then s.line.catchOf (pinLine l) else { state := .none, c := 0#4, n := 0#4 }
        | .reporting =>
          if (s.line.lines[l]).retire = false ∧ lm ≠ .catching then
            retire = true ∧
              b.catchOf (pinLine l) = { state := .reporting, c := (s.line.catchOf (pinLine l)).c, n := 0#4 }
          else
            retire = (s.line.lines[l]).retire ∧ b.catchOf (pinLine l) = s.line.catchOf (pinLine l))

/-- R131, R132 (cause 3), R151, R164: SET REPORTING sets the report mode, the report address and the sample code and is answered OK.
Setting report mode EVENT builds an EVENT for the CAUGHT lines when none is held; a change of the report address builds a BREAK
when a state is unreported and none is held. -/
def Obligations.SetReportingSetsAndReports : Prop :=
  ∀ (s : State) (q : Requester) (mode row col code : Digit) (ls : List (Fin 13)),
    s.Manages q → mode.toNat ≤ 1 → row.toNat ≤ 7 → addrOf row col ≠ s.adr → addrOf row col ≠ Config.broadcast →
    code.toNat ≤ 3 → ls = (List.finRange 13).filter (fun l => (s.line.catchOf l).state = .caught) →
    ∃ t, exec (.setReporting q mode row col code) s = .next t ∧
      t.line.reportMode = (if mode = 1#4 then .event else .poll) ∧ t.line.reportAddr = addrOf row col ∧
      t.line.sampleCode.toNat = code.toNat ∧ t.line.lines = s.line.lines ∧ t.line.latches = s.line.latches ∧
      t.mgmt.last = some { src := q.src, seq := q.seq, command := 0xC#4, payload := [0xC#4, 0#4] } ∧
      (t.mgmt.reply = .full (replyDigits s q.src q.seq [0xC#4, 0#4]) ∨
        t.mgmt.reply = .sending (replyDigits s q.src q.seq [0xC#4, 0#4])) ∧
      t.mgmt.manager0 = s.mgmt.manager0 ∧ t.mgmt.manager1 = s.mgmt.manager1 ∧ t.mgmt.commit = none ∧
      t.map = s.map ∧ t.run = (s.heard q.port).run ∧ t.spur = (s.heard q.port).spur ∧
      t.upRx = (s.heard q.port).upRx ∧ t.spurRx = (s.heard q.port).spurRx ∧ t.gapCount = (s.heard q.port).gapCount ∧
      t.merge.transit = s.merge.transit ∧ t.merge.spurReturn = s.merge.spurReturn ∧
      t.sup = { (s.heard q.port).sup with lastUp := t.sup.lastUp, lastSpur := t.sup.lastSpur } ∧
      t.rate = s.rate ∧ t.adr = s.adr ∧
      (mode = 0#4 → t.line.catches = s.line.catches ∧ t.line.eventSeq = s.line.eventSeq) ∧
      (mode = 1#4 → s.inserted .event = 0 → ls ≠ [] →
        t.line.eventSeq = s.line.eventSeq + 1#4 ∧
        (∀ l, t.line.catchOf l =
          if l ∈ ls.take 7 then { state := .reporting, c := (s.line.catchOf l).c, n := 0#4 } else s.line.catchOf l) ∧
        ∃ h ∈ t.merge.insertion, h.tag = .report (ls.take 7) ∧
          h.digits = (eventFrame s.adr (addrOf row col) s.line.eventSeq
            ((ls.take 7).flatMap fun l => [BitVec.ofNat 4 l.val, (s.line.catchOf l).c])).digits) ∧
      (addrOf row col ≠ s.line.reportAddr → s.inserted .breakReport = 0 → s.unreported = true →
        t.sup.lastUp = s.sup.up ∧ t.sup.lastSpur = s.spur.state ∧
        ∃ h ∈ t.merge.insertion,
          h.digits = (breakFrame s.adr (addrOf row col) s.sup.up s.spur.state s.map.generation).digits) ∧
      (addrOf row col = s.line.reportAddr →
        t.sup.lastUp = s.sup.lastUp ∧ t.sup.lastSpur = s.sup.lastSpur ∧ s.inserted .breakReport = t.inserted .breakReport)

/-- R107, R152, R163: SET SPUR with enable 1h makes a DISABLED spur CLOSED, its counts 0 and its receiver in SKIP, and on any other
spur sets the watch time alone; it is answered OK. -/
def Obligations.SetSpurEnableEnablesOrSetsTheWatchTime : Prop :=
  ∀ (s : State) (q : Requester) (watch : Digit), s.Manages q → watch ≠ 0#4 →
    (s.spur.state = .disabled →
      exec (.setSpurEnable q watch) s =
        .next (State.answered
          { s.heard q.port with
            spur := { s.spur with state := .closed, watchTime := watch, watchCount := 0, restoreCount := 0 }
            spurRx := { state := .skip, buffer := [] }
            sup := { (s.heard q.port).sup with lastSpur := .closed } }
          q.src q.seq 0xD#4 0#4 [])) ∧
    (s.spur.state ≠ .disabled →
      exec (.setSpurEnable q watch) s =
        .next (State.answered
          { s.heard q.port with spur := { (s.heard q.port).spur with watchTime := watch } } q.src q.seq 0xD#4 0#4 []))

/-- R57 (check 3): an entry of the active bank uses the spur. -/
def usesTheSpur (e : Entry) : Prop := e.action = .divert ∨ e.action = .mirror ∨ e.action = .remap ∧ e.spill = true

/-- R59, R108, R125, R126, R132, R152, R163, R15, R12: SET SPUR with enable 0h is refused while the active bank uses the spur, naming
the lowest such address; on a DISABLED spur it sets the watch time alone; and otherwise it disables the spur, discards its frames,
moves the lines that they reported, which in report mode EVENT may have an EVENT built, and is answered OK. -/
def Obligations.SetSpurDisableDiscardsOrIsRefused : Prop :=
  ∀ (s : State) (q : Requester) (watch : Digit), s.Manages q → watch ≠ 0#4 →
    (s.spur.state = .disabled →
      exec (.setSpurDisable q watch) s =
        .next (State.answered
          { s.heard q.port with spur := { (s.heard q.port).spur with watchTime := watch } } q.src q.seq 0xD#4 0#4 [])) ∧
    (∀ a, s.spur.state ≠ .disabled → a ≠ s.adr → usesTheSpur (s.map.activeBank.entry a) →
      (∀ c, c < a → c ≠ s.adr → ¬usesTheSpur (s.map.activeBank.entry c)) →
      exec (.setSpurDisable q watch) s =
        .next ((s.heard q.port).answered q.src q.seq 0xD#4 4#4 [2#4, rowOf a, colOf a])) ∧
    (s.spur.state ≠ .disabled → (∀ a, a ≠ s.adr → ¬usesTheSpur (s.map.activeBank.entry a)) →
      ∀ u, u = { s.heard q.port with
          spur := { s.spur with
            state := .disabled, watchTime := watch, watchCount := 0, restoreCount := 0, queue := [],
            tx := s.spur.tx.abort }
          spurRx := .reset
          sup := { (s.heard q.port).sup with lastSpur := .disabled }
          merge := { s.merge with spurReturn := [], tx := s.merge.tx.abortFrom .spurReturn } } →
        ∃ v ls, exec (.setSpurDisable q watch) s = .next (v.answered q.src q.seq 0xD#4 0#4 []) ∧
          EventEffect u v ∧ (ReportingLaw s → recordsDiscarded u v s.spur.queue ls ∧ EventEntered u v ls) ∧
          (s.line.reportMode = .poll → v = { u with line := v.line }) ∧
          ((∀ h ∈ s.spur.queue, ∀ ls, h.tag ≠ .report ls) → v = u))

/-- R151, R153, R170: SET OPTIONS sets the damaged policy, the run gap and the silence time, and SET MANAGER sets or removes one manager
slot; each changes nothing else and is answered OK. -/
def Obligations.SetOptionsAndSetManagerSetTheirFields : Prop :=
  ∀ (s : State) (q : Requester), s.Manages q →
    (∀ policy gap silence : Digit, policy.toNat ≤ 1 → silence ≠ 0#4 →
      exec (.setOptions q policy gap silence) s =
        .next (State.answered
          { s.heard q.port with sup := { (s.heard q.port).sup with
              policy := if policy = 1#4 then .drop else .forward, gap := gap, silenceTime := silence } }
          q.src q.seq 0xE#4 0#4 [])) ∧
    (∀ slot present row col : Digit, ∀ a : Option Addr, slot.toNat ≤ 1 →
      (present = 0#4 ∧ a = none ∨
        present = 1#4 ∧ row.toNat ≤ 7 ∧ addrOf row col ≠ s.adr ∧ addrOf row col ≠ Config.broadcast ∧
          a = some (addrOf row col)) →
      exec (.setManager q slot present row col) s =
        .next (State.answered
          { s.heard q.port with mgmt :=
              if slot = 1#4 then { s.mgmt with manager1 := a } else { s.mgmt with manager0 := a } }
          q.src q.seq 0xF#4 0#4 []))

/-- The command by which a MGMT frame of a requester, with this command digit and these arguments, is taken. -/
def mgmtFrame (s : State) (q : Requester) (code : Digit) (args : List Digit) : Instr :=
  .takeFrame q.port .ended (Frame.digits { kind := 0x8#4, dst := s.adr, src := q.src, seq := q.seq, payload := code :: args })

/-- R138 to R141, R155, R157: a MGMT frame that finds the reply slot in use is dropped; one that repeats the last command's source and
sequence is answered with the recorded reply; one whose source is no manager is answered DENIED; and none of them does anything
else. While a commit is pending a MGMT frame from the spur is dropped, and so is one whose END from upstream ends the wait, after
which the swap is due (assumption log 4). -/
def Obligations.DroppedReplayedAndDeniedCommands : Prop :=
  (∀ (s : State) (q : Requester) (code : Digit) (args : List Digit), s.Delivers q → args.length ≤ 14 →
    (s.mgmt.reply ≠ .free →
      ∃ t, exec (mgmtFrame s q code args) s = .next t ∧ Reported (s.heard q.port) t .mgmtDropped .mgmtOverrun) ∧
    (∀ r, s.mgmt.reply = .free → s.mgmt.last = some r → r.src = q.src → r.seq = q.seq →
      exec (mgmtFrame s q code args) s = .next ((s.heard q.port).replied q.src q.seq r.payload)) ∧
    (s.mgmt.reply = .free → (∀ r, s.mgmt.last = some r → ¬(r.src = q.src ∧ r.seq = q.seq)) →
      (s.mgmt.manager0 ≠ none ∨ s.mgmt.manager1 ≠ none) → s.mgmt.manager0 ≠ some q.src → s.mgmt.manager1 ≠ some q.src →
      exec (mgmtFrame s q code args) s = .next ((s.heard q.port).replied q.src q.seq [code, 3#4]))) ∧
  ∀ (s : State) (q : Requester) (code : Digit) (args : List Digit), s.Quiet → s.Owned q → args.length ≤ 14 →
    s.mgmt.reply = .reserved → s.mgmt.commit.isSome = true →
    (q.port = .spur → s.spurRx.state ≠ .assemble → s.spur.state = .closed →
      ∃ t, exec (mgmtFrame s q code args) s = .next t ∧ Reported (s.heard .spur) t .mgmtDropped .mgmtOverrun) ∧
    (s.sup.up = .live →
      s.upRx =
        { state := .assemble, buffer := (Frame.mk 0x8#4 s.adr q.src q.seq (code :: args)).digits } →
      ∃ u, exec (.receiveUnit .upstream unitEnd) s = .next { u with due := [.swap] } ∧
        Reported (s.heard .upstream) u .mgmtDropped .mgmtOverrun)

/-- R18: the payload length of each command but LOAD PATTERNS. -/
def commandLength (code : Digit) : Nat := [2, 9, 10, 0, 1, 1, 4, 6, 1, 2, 2, 5, 5, 3, 4, 5].getD code.toNat 0

/-- R18, R142: the payload length is not the command's length. -/
def wrongLength (code : Digit) (args : List Digit) : Prop :=
  if code = 3#4 then
    args.length < 4 ∨
    (1 ≤ (args.getD 3 0#4).toNat ∧ (args.getD 3 0#4).toNat ≤ 5 ∧ args.length ≠ 4 + 2 * (args.getD 3 0#4).toNat)
  else args.length + 1 ≠ commandLength code

/-- R143: an argument lies outside its range. -/
def outOfRange (own : Addr) (code : Digit) (args : List Digit) : Prop :=
  let d (i : Nat) : Nat := (args.getD i 0#4).toNat
  let address (i : Nat) : Addr := addrOf (args.getD i 0#4) (args.getD (i + 1) 0#4)
  match code.toNat with
  | 0 => d 0 ≠ 1 ∧ d 0 ≠ 2
  | 1 => 7 < d 0 ∨ 4 < d 2 ∨ 3 < d 3 ∨ 7 < d 4
  | 2 => 7 < d 0 ∨ 4 < d 3 ∨ 3 < d 4 ∨ 7 < d 5 ∨ d 2 < d 1
  | 3 => d 3 = 0 ∨ 5 < d 3 ∨ 7 < d 0 ∨ 31 < 16 * d 1 + d 2 ∨ 32 < 16 * d 1 + d 2 + d 3
  | 4 => False
  | 5 => False
  | 6 => 1 < d 0 ∨ 7 < d 1
  | 7 => 1 < d 0 ∨ 7 < d 1 ∨ 31 < 16 * d 2 + d 3 ∨ d 4 = 0 ∨ 6 < d 4 ∨ 32 < 16 * d 2 + d 3 + d 4
  | 8 => False
  | 9 => 2 < d 0
  | 10 => 3 < d 0
  | 11 => 11 < d 0 ∨ 3 < d 1 ∨ 2 < d 2 ∨ d 3 = 0
  | 12 => 1 < d 0 ∨ 7 < d 1 ∨ address 1 = own ∨ address 1 = 0x7F#7 ∨ 3 < d 3
  | 13 => 1 < d 0 ∨ d 1 = 0
  | 14 => 1 < d 0 ∨ d 2 = 0
  | _ => 1 < d 0 ∨ 1 < d 1 ∨ (d 1 = 1 ∧ (7 < d 2 ∨ address 2 = own ∨ address 2 = 0x7F#7))

/-- R138, R142, R143, R144: a command of the wrong length is answered LENGTH, and one with an argument out of range INVALID, with no
data, and nothing else changes. -/
def Obligations.WrongCommandsAreAnsweredAndChangeNothing : Prop :=
  ∀ (s : State) (q : Requester) (code : Digit) (args : List Digit), s.Manages q → args.length ≤ 14 →
    (wrongLength code args →
      exec (mgmtFrame s q code args) s = .next ((s.heard q.port).answered q.src q.seq code 2#4 [])) ∧
    (¬wrongLength code args → outOfRange s.adr code args →
      exec (mgmtFrame s q code args) s = .next ((s.heard q.port).answered q.src q.seq code 1#4 []))

/-! ## The transmitters -/

/-- R13, R96, R97, R98, R99: the downstream transmitter, moving from FILL to READY, is granted the reply where the slot is FULL, the
pointer kept; otherwise the first queue from the pointer on that holds a frame, the pointer moving past it; and otherwise it is
READY. That the command does nothing in READY or SEND, where there is no such move to make, is assumption log 8. -/
def Obligations.ReadyTransmitterIsGranted : Prop :=
  ∀ s : State, s.Quiet →
    (∀ k, s.merge.tx = .fill k →
      (∀ ds, s.mgmt.reply = .full ds →
        exec (.transmitterReady .downstream) s = .next
          { s with
            merge := { s.merge with tx := .send .reply 0, dout := unitIdle }
            mgmt := { s.mgmt with reply := .sending ds } }) ∧
      ((∀ ds, s.mgmt.reply ≠ .full ds) →
        (∀ i : Fin 4, queueAt s i ≠ [] →
          (∀ j : Fin 4, (j - s.merge.pointer).val < (i - s.merge.pointer).val → queueAt s j = []) →
          exec (.transmitterReady .downstream) s = .next
            { s with merge := { s.merge with tx := .send (storeAt i) 0, pointer := i + 1, dout := unitIdle } }) ∧
        ((∀ i : Fin 4, queueAt s i = []) →
          exec (.transmitterReady .downstream) s = .next
            { s with merge := { s.merge with tx := .ready, dout := unitIdle } }))) ∧
    ((∀ k, s.merge.tx ≠ .fill k) → exec (.transmitterReady .downstream) s = .next s)

/-- R124, R126, R132: the lines that the departed frame `h` names have moved, and an EVENT has been built where that is a cause for
one. -/
def recordsDeparted (u t : State) (h : Held) (ls : List (Fin 13)) : Prop :=
  ∃ event, LinesMoved u t (departureMove u.line) ls (h.kind = .event) event ∧ EventEntered u t event ∧
    LinesReleased u t ls ∧ (u.line.reportMode = .poll → t = { u with line := t.line })

/-- R164: the examination of the part `u` for a BREAK, with `t` what it leaves. -/
def breakExamined (u t : State) : Prop :=
  if u.adr ≠ Config.broadcast ∧ u.line.reportAddr ≠ u.adr ∧ u.inserted .breakReport = 0 ∧
      (u.sup.up ≠ u.sup.lastUp ∨ u.spur.state ≠ .disabled ∧ u.spur.state ≠ u.sup.lastSpur) then
    Inserted { u with sup := { u.sup with lastUp := u.sup.up, lastSpur := u.spur.state } } t
      { digits := (breakFrame u.adr u.line.reportAddr u.sup.up u.spur.state u.map.generation).digits
        tag := .condition
          { oldUp := u.sup.lastUp, oldSpur := u.sup.lastSpur, newUp := u.sup.up, newSpur := u.spur.state } }
  else t = u

/-- R100, R124, R126, R165: the frame in transmission downstream departs: it leaves its store, its END is the last unit sent, and the
transmitter is in FILL; the lines of its report tag leave REPORTING, which may have an EVENT built (R132, causes 1 and 2), and the
departure of a BREAK has R164 examined. That the END
is what the output is left at is assumption log 14, and that the command does nothing with no frame in transmission is log 8. -/
def Obligations.DownstreamDeparturesNotify : Prop :=
  ∀ s : State, s.Quiet →
    (∀ src k h rest, s.merge.tx = .send src k → src ≠ .spurOut → s.framesOf src = h :: rest →
      ∀ m u, m = { s.merge with tx := .fill 0, dout := unitEnd } →
        u = (match src with
          | .transit => { s with merge := { m with transit := rest } }
          | .spurReturn => { s with merge := { m with spurReturn := rest } }
          | .insertion => { s with merge := { m with insertion := rest } }
          | .reply => { s with merge := m, mgmt := { s.mgmt with reply := .free } }
          | .spurOut => s) →
        ∃ t, exec .frameDeparts s = .next t ∧
          (h.tag = .none → t = u) ∧
          (∀ ls, h.tag = .report ls → ls.Nodup → recordsDeparted u t h ls) ∧
          (∀ c, h.tag = .condition c → breakExamined u t)) ∧
    ((∀ src k, s.merge.tx ≠ .send src k) → exec .frameDeparts s = .next s)

/-- R13, R104: the spur transmitter, moving from FILL to READY, is granted the head of the spur-out queue while the spur is CLOSED or
OPEN; a frame that departs on the spur leaves the queue, and the lines of its report tag leave REPORTING, which may have an EVENT
built (R124, R126, R132). The unit that the output is left at is assumption log 14, and that a command whose move the transmitter
does not have to make does nothing is log 8. -/
def Obligations.SpurTransmitterSendsItsQueue : Prop :=
  ∀ s : State, s.Quiet →
    (∀ k, s.spur.tx = .fill k →
      exec (.transmitterReady .spur) s = .next
        { s with spur := { s.spur with
            tx := if s.spur.state ≠ .disabled ∧ s.spur.queue ≠ [] then .send .spurOut 0 else .ready, sout := unitIdle } }) ∧
    ((∀ k, s.spur.tx ≠ .fill k) → exec (.transmitterReady .spur) s = .next s) ∧
    (∀ src k h rest u, s.spur.tx = .send src k → s.spur.queue = h :: rest →
      u = { s with spur := { s.spur with queue := rest, tx := .fill 0, sout := unitEnd } } →
      ∃ t, exec .spurFrameDeparts s = .next t ∧
        (h.tag = .none → t = u) ∧
        (∀ ls, h.tag = .report ls → ls.Nodup → recordsDeparted u t h ls)) ∧
    ((∀ src k, s.spur.tx ≠ .send src k) → exec .spurFrameDeparts s = .next s)

/-! ## Supervision -/

/-- R160, R105: a service tick raises both counts, up to 15, and brings about the change to SILENT, or the change to OPEN, where the
risen count reaches the time set. That the change is then due, and not yet made, so that the tick leaves the state LIVE or CLOSED,
is assumption log 4: the rules have the state change at the tick. -/
def Obligations.ServiceTickRaisesTheCounts : Prop :=
  ∀ s : State, s.Quiet →
    ∃ t, exec .serviceTick s = .next t ∧
      t = { s with
        sup := { s.sup with silenceCount := min (s.sup.silenceCount + 1) 15 }
        spur := { s.spur with watchCount := min (s.spur.watchCount + 1) 15 }
        due := t.due, choices := t.choices } ∧
      (Due.upstreamSilence ∈ t.due ↔ s.sup.up = .live ∧ s.sup.silenceTime.toNat ≤ min (s.sup.silenceCount + 1) 15) ∧
      (Due.spurWatchExpiry ∈ t.due ↔
        s.spur.state = .closed ∧ s.spur.watchTime.toNat ≤ min (s.spur.watchCount + 1) 15) ∧
      ∀ d ∈ t.due, d = .upstreamSilence ∨ d = .spurWatchExpiry

/-- R168 for the counters of a change of state that may also truncate a frame: CHANGES has risen by one, MALFORMED where a frame
was under assembly, and no other counter. -/
def changeCounted (s t : State) (truncated : Bool) : Prop :=
  ∀ c, (t.sup.countOf c).toNat =
    if c = .changes ∨ c = .malformed ∧ truncated = true then min ((s.sup.countOf c).toNat + 1) 255
    else (s.sup.countOf c).toNat

/-- R167: CONDITION is set, and LINE_ERROR where a frame was truncated, and no latch is cleared. -/
def conditionLatched (s t : State) (truncated : Bool) : Prop :=
  ∀ l, t.sup.isSet l = (s.sup.isSet l || decide (l = .condition) || (decide (l = .lineError) && truncated))

/-- R128: the lines to which a latch set gives an edge: the pseudo-line of an addressed part whose latch set was empty. -/
def latchEdges (s : State) : List (Fin 13) := if s.adr ≠ Config.broadcast ∧ s.sup.latches = 0#8 then [pseudoLine] else []

/-- R161, R12, R34, R39, R88, R156, R164: the change to SILENT truncates the frame under assembly, closes the run, performs a pending
swap, counts CHANGES, sets CONDITION and has R164 examined; the first latch of an empty set is an edge of the pseudo-line (R128,
R132), and no other line moves but by an EVENT; the queues, the spur and the settings stay. -/
def Obligations.UpstreamSilenceTruncatesClosesAndSwaps : Prop :=
  ∀ (s : State) (busy : Bool), s.resetLow = false → Due.upstreamSilence ∈ s.due → s.sup.up = .live →
    busy = decide (s.upRx.state = .assemble) →
    ∃ t, exec .upstreamSilence s = .next t ∧
      t.sup.up = .silent ∧ t.sup.restoreCount = 0 ∧ t.sup.silenceCount = s.sup.silenceCount ∧ t.run = .closed ∧
      (if busy then t.upRx = .reset ∧ t.gapCount = 0 else t.upRx = s.upRx ∧ t.gapCount = s.gapCount) ∧
      changeCounted s t busy ∧ conditionLatched s t busy ∧
      (∃ ls, LinesMoved s t (edgeMove s.line) (latchEdges s) False ls) ∧ t.line.lines = s.line.lines ∧
      (if s.mgmt.commit = none then t.map = s.map ∧ t.mgmt.last = s.mgmt.last
      else
        t.map.activeBank = s.map.stagingBank ∧ t.map.stagingBank = s.map.activeBank ∧ t.map.active ≠ s.map.active ∧
        t.map.generation = s.map.generation + 1#4) ∧
      (∀ src seq payload, s.mgmt.commit = some (src, seq) → payload = [0x5#4, 0#4, s.map.generation + 1#4] →
        t.mgmt.commit = none ∧
        t.mgmt.last = some { src := src, seq := seq, command := 0x5#4, payload := payload } ∧
        (t.mgmt.reply = .full (replyDigits s src seq payload) ∨ t.mgmt.reply = .sending (replyDigits s src seq payload))) ∧
      t.merge.transit = s.merge.transit ∧ t.merge.spurReturn = s.merge.spurReturn ∧ t.spur = s.spur ∧
      t.spurRx = s.spurRx ∧ t.mgmt.manager0 = s.mgmt.manager0 ∧ t.mgmt.manager1 = s.mgmt.manager1 ∧
      t.sup.policy = s.sup.policy ∧ t.sup.gap = s.sup.gap ∧ t.sup.silenceTime = s.sup.silenceTime ∧
      (if s.adr ≠ Config.broadcast ∧ s.line.reportAddr ≠ s.adr ∧ s.inserted .breakReport = 0 ∧
          (s.sup.lastUp ≠ .silent ∨ s.spur.state ≠ .disabled ∧ s.spur.state ≠ s.sup.lastSpur) then
        t.sup.lastUp = .silent ∧ t.sup.lastSpur = s.spur.state ∧
        ∃ h ∈ t.merge.insertion,
          h.digits = (breakFrame s.adr s.line.reportAddr .silent s.spur.state t.map.generation).digits ∧
          h.tag = .condition
            { oldUp := s.sup.lastUp, oldSpur := s.sup.lastSpur, newUp := .silent, newSpur := s.spur.state }
      else
        t.sup.lastUp = s.sup.lastUp ∧ t.sup.lastSpur = s.sup.lastSpur ∧
        t.inserted .breakReport = s.inserted .breakReport)

/-- R105, R12, R163, R164: the change to OPEN truncates the frame under assembly from the spur, counts CHANGES, sets CONDITION and has
R164 examined; the first latch of an empty set is an edge of the pseudo-line (R128, R132), and no other line moves but by an EVENT;
the spur-out queue and its transmitter go on. -/
def Obligations.SpurWatchExpiryOpensTheSpur : Prop :=
  ∀ (s : State) (busy : Bool), s.resetLow = false → Due.spurWatchExpiry ∈ s.due → s.spur.state = .closed →
    busy = decide (s.spurRx.state = .assemble) →
    ∃ t, exec .spurWatchExpiry s = .next t ∧
      t.spur = { s.spur with state := .opened, restoreCount := 0 } ∧
      t.spurRx = (if busy then .reset else s.spurRx) ∧
      changeCounted s t busy ∧ conditionLatched s t busy ∧
      (∃ ls, LinesMoved s t (edgeMove s.line) (latchEdges s) False ls) ∧ t.line.lines = s.line.lines ∧
      t.upRx = s.upRx ∧ t.gapCount = s.gapCount ∧ t.map = s.map ∧ t.run = s.run ∧
      t.merge.transit = s.merge.transit ∧ t.merge.spurReturn = s.merge.spurReturn ∧ t.sup.up = s.sup.up ∧
      t.mgmt.last = s.mgmt.last ∧ t.mgmt.commit = s.mgmt.commit ∧
      (if s.adr ≠ Config.broadcast ∧ s.line.reportAddr ≠ s.adr ∧ s.inserted .breakReport = 0 ∧
          (s.sup.up ≠ s.sup.lastUp ∨ s.sup.lastSpur ≠ .opened) then
        t.sup.lastUp = s.sup.up ∧ t.sup.lastSpur = .opened ∧
        ∃ h ∈ t.merge.insertion,
          h.digits = (breakFrame s.adr s.line.reportAddr s.sup.up .opened s.map.generation).digits ∧
          h.tag = .condition
            { oldUp := s.sup.lastUp, oldSpur := s.sup.lastSpur, newUp := s.sup.up, newSpur := .opened }
      else
        t.sup.lastUp = s.sup.lastUp ∧ t.sup.lastSpur = s.sup.lastSpur ∧
        t.inserted .breakReport = s.inserted .breakReport)

/-- R162, R106, R163, R164: the change to LIVE, or from OPEN to CLOSED, sets both its counts to 0, counts CHANGES, sets no latch, and
has R164 examined. It comes about by the 64th IDLE, which makes it due (assumption log 4: the event of a state that has changed
meanwhile does nothing), or by an intact frame, which is then handled as it is in the restored state. That a frame restores the
spur before it is placed, so that at a READY transmitter the BREAK is granted first, is assumption log 10. -/
def Obligations.RestoresAreCountedAndReported : Prop :=
  (∀ (s : State) (f : Frame), s.Quiet → f.payload.length ≤ 15 →
    (s.upRx.state ≠ .assemble → s.sup.up = .silent →
      ∃ u v t, exec (.takeFrame .upstream .ended f.digits) s = .next t ∧
        Counted
          { s with
            upRx := .reset, gapCount := 0
            sup := { s.sup with up := .live, silenceCount := 0, restoreCount := 0 } } u .changes ∧
        breakExamined u v ∧ exec (.takeFrame .upstream .ended f.digits) v = .next t) ∧
    (s.spurRx.state ≠ .assemble → s.spur.state = .opened →
      ∃ u v t, exec (.takeFrame .spur .ended f.digits) s = .next t ∧
        Counted
          { s with
            spurRx := .reset
            spur := { s.spur with state := .closed, watchCount := 0, restoreCount := 0 } } u .changes ∧
        breakExamined u v ∧ exec (.takeFrame .spur .ended f.digits) v = .next t)) ∧
  ∀ s : State, s.resetLow = false →
    (Due.upstreamRestore ∈ s.due → s.sup.up = .silent →
      ∃ u t, exec .upstreamRestore s = .next t ∧
        Counted
          { s with
            due := s.due.erase .upstreamRestore
            sup := { s.sup with up := .live, silenceCount := 0, restoreCount := 0 } } u .changes ∧
        breakExamined u t) ∧
    (Due.spurRestore ∈ s.due → s.spur.state = .opened →
      ∃ u t, exec .spurRestore s = .next t ∧
        Counted
          { s with
            due := s.due.erase .spurRestore
            spur := { s.spur with state := .closed, watchCount := 0, restoreCount := 0 } } u .changes ∧
        breakExamined u t) ∧
    (Due.upstreamRestore ∈ s.due → s.sup.up = .live →
      exec .upstreamRestore s = .next { s with due := s.due.erase .upstreamRestore }) ∧
    (Due.spurRestore ∈ s.due → s.spur.state ≠ .opened →
      exec .spurRestore s = .next { s with due := s.due.erase .spurRestore })

/-! ## Sampling -/

/-- R113, R114: the level of a line's pin: low where the part drives it, else as the panel gives it. -/
def levelAt (s : State) (pins : BitVec 12) (l : Fin 12) : Bool :=
  if (s.line.lines[l]).mode = .output ∧
      ∃ (i : Fin 3) (j : Fin 4), l.val = 4 * i.val + j.val ∧ (s.line.latches[i]).getLsbD j.val = true then false
  else pins.getLsbD l.val

/-- R117: a sample that sees `level` gives a line a qualified edge. -/
abbrev edgeSeen (x : Line) (level : Bool) : Prop :=
  x.mode = .catching ∧ level ≠ x.qualified ∧ x.hold.toNat ≤ x.run.toNat + 1 ∧
  (x.edge = .falling ∧ level = false ∨ x.edge = .rising ∧ level = true ∨ x.edge = .both)

/-- R117: the lines to which a sample of these levels gives a qualified edge. -/
def edgesSeen (s : State) (pins : BitVec 12) : List (Fin 13) :=
  ((List.finRange 12).filter fun l => edgeSeen s.line.lines[l] (levelAt s pins l)).map pinLine

/-- R115, R116, R117, R122, R132: a sample time. Every line's sampled level is set, and lines in INPUT or CATCH mode are qualified; the
lines with a qualified edge move, in an order that is left open (assumption log 3), and no other line does but by an EVENT, which is
built in report mode EVENT where a line becomes CAUGHT and none is held; and nothing else changes. -/
def Obligations.SamplesQualifyTheLines : Prop :=
  ∀ (s : State) (pins : BitVec 12), s.Quiet →
    ∃ t ls, exec (.lineSample pins) s = .next t ∧
      LinesMoved s t (edgeMove s.line) (edgesSeen s pins) False ls ∧ EventEntered s t ls ∧
      (s.line.reportMode = .poll → t = { s with line := t.line }) ∧
      ∀ (l : Fin 12) (x : Line) (level : Bool), x = s.line.lines[l] → level = levelAt s pins l →
        (x.mode = .disabled ∨ x.mode = .output → t.line.lines[l] = { x with sampled := level }) ∧
        (x.mode = .input ∨ x.mode = .catching →
          (level = x.qualified → t.line.lines[l] = { x with sampled := level, run := 0#4 }) ∧
          (level ≠ x.qualified → x.run.toNat + 1 < x.hold.toNat →
            t.line.lines[l] = { x with sampled := level, run := x.run + 1#4 }) ∧
          (level ≠ x.qualified → x.hold.toNat ≤ x.run.toNat + 1 →
            t.line.lines[l] = { x with sampled := level, qualified := level, run := 0#4 }))

/-! ## Laws of the whole machine -/

/-- R92, R94, R88, R91 and the ranges of R9, R34, R105, R106, R160, R162: each is kept by every step on its own. -/
def Obligations.CapacitiesAndCountsStayInRange : Prop :=
  ∀ s t : State, step s = .next t →
    (StoresBounded s → StoresBounded t) ∧ (CountsInRange s → CountsInRange t) ∧ (RunLaw s → RunLaw t)

/-- R14: every step keeps every held frame within the bounds of a frame that may be sent. -/
def Obligations.HeldFramesStaySendable : Prop :=
  ∀ s t : State, step s = .next t → FramesSendable s → FramesSendable t

/-- R60: the active bank passes validation under the spur state right after the release of RESET, and every step keeps it so, with
what R39, R99, R145 and R155 give of a pending commit and the reply slot: `MapLaw` says all three. -/
def Obligations.ActiveBankStaysValid : Prop :=
  (∀ (rate : BitVec 2) (adr : Addr) (pins : BitVec 12), MapLaw (State.powerOn rate adr pins)) ∧
  ∀ s t : State, step s = .next t → MapLaw s → MapLaw t

/-- R67: in either bank, a page whose valid flag is clear holds 00h right after the release of RESET, and every step keeps it so;
every step keeps the canonical form of the banks' stores, too. -/
def Obligations.ClearPagesStayBlank : Prop :=
  (∀ (rate : BitVec 2) (adr : Addr) (pins : BitVec 12),
    BanksCanonical (State.powerOn rate adr pins) ∧ PagesLaw (State.powerOn rate adr pins)) ∧
  ∀ s t : State, step s = .next t →
    (BanksCanonical s → BanksCanonical t) ∧ (BanksCanonical s → PagesLaw s → PagesLaw t)

/-- R127, R113, R126, R133: every step keeps a line REPORTING exactly while one held frame carries its record, and keeps the catch
states that a line's mode and retire field allow. -/
def Obligations.ReportingLinesHaveOneRecord : Prop :=
  ∀ s t : State, step s = .next t → ReportingLaw s →
    ReportingLaw t ∧ (CatchLaw s → CatchLaw t)

/-- R96, R99, R103, R104, R109: every step keeps a DISABLED spur empty, and a READY transmitter without a frame to send. -/
def Obligations.TransmittersHoldWhatTheySend : Prop :=
  ∀ s t : State, step s = .next t → SpurLaw s → SpurLaw t ∧ (TransmitLaw s → TransmitLaw t)

/-- R113, R137, R153, R62, R112, R136, R159: every step keeps the manager list and the report address legal, and an unaddressed part
at its power-on settings. -/
def Obligations.AddressesStayLegal : Prop :=
  ∀ s t : State, step s = .next t → (AddressesLaw s → AddressesLaw t) ∧ (UnaddressedLaw s → UnaddressedLaw t)

/-- Every law of the machine holds right after the release of RESET, whatever the straps and the pins. -/
def Obligations.AllLawsHoldAtPowerOn : Prop :=
  ∀ (rate : BitVec 2) (adr : Addr) (pins : BitVec 12) (s : State), s = State.powerOn rate adr pins →
    StoresBounded s ∧ FramesSendable s ∧ MapLaw s ∧ PagesLaw s ∧ BanksCanonical s ∧ ReportingLaw s ∧ CountsInRange s ∧
    RunLaw s ∧ SpurLaw s ∧ TransmitLaw s ∧ AddressesLaw s ∧ CatchLaw s ∧ UnaddressedLaw s

/-- R2, R5, R38, R61: the straps are read only at the release of RESET, and the active bank and the generation number change only
together, as by one swap, or to bank A at generation 0 by a power-on reset or a command that can carry a FULL reset. -/
def Obligations.StrapsAndGenerationChangeOnlyByTheirEvents : Prop :=
  ∀ (s t : State) (c : Instr), exec c s = .next t →
    ((∀ rate adr pins, c ≠ .powerOnReset rate adr pins) → t.rate = s.rate ∧ t.adr = s.adr) ∧
    (t.map.active = s.map.active ∧ t.map.generation = s.map.generation ∨
      t.map.active ≠ s.map.active ∧ t.map.generation = s.map.generation + 1#4 ∨
      t.map.active = .a ∧ t.map.generation = 0#4 ∧
        ((∃ rate adr pins, c = .powerOnReset rate adr pins) ∨ (∃ p u, c = .receiveUnit p u) ∨
          (∃ p e ds, c = .takeFrame p e ds) ∨ ∃ q, c = .resetFull q))

/-- R168: a counter decreases only to 0, and only by a command that can carry a CLEAR or a FULL reset, or by a power-on reset. -/
def Obligations.CountersFallOnlyWhenCleared : Prop :=
  ∀ (s t : State) (c : Instr), exec c s = .next t →
    ∀ k, (s.sup.countOf k).toNat ≤ (t.sup.countOf k).toNat ∨
      t.sup.countOf k = 0#8 ∧
        ((∃ rate adr pins, c = .powerOnReset rate adr pins) ∨ (∃ p u, c = .receiveUnit p u) ∨
          (∃ p e ds, c = .takeFrame p e ds) ∨ (∃ q, c = .resetFull q) ∨ (∃ q, c = .clearFaultLatches q true) ∨
          ∃ q b, c = .clearCounters q b)
end

