-- ==== Sys2Proof/Laws/Frames.lean ====
section
/-! SUPPORT. Laws of digits and frames: addresses and bytes as digits, the check, and the classification of a frame
that the part's own layout made. -/

namespace Sys2Proof.Machine

/-! ## Addresses and bytes as digits -/

@[simp] theorem addrOf_rowOf_colOf (a : Addr) : addrOf (rowOf a) (colOf a) = a := by
  revert a; decide

theorem rowOf_addrOf (row col : Digit) (h : badRow row = false) : rowOf (addrOf row col) = row := by
  revert row col; decide

@[simp] theorem colOf_addrOf (row col : Digit) : colOf (addrOf row col) = col := by
  revert row col; decide

@[simp] theorem badRow_rowOf (a : Addr) : badRow (rowOf a) = false := by
  revert a; decide

theorem byteOf_digits (v : BitVec 8) : byteOf (highDigit v) (lowDigit v) = v := by
  revert v; decide

@[simp] theorem byteDigits_length (v : BitVec 8) : (byteDigits v).length = 2 := rfl

@[simp] theorem flatMap_byteDigits_length (vs : List (BitVec 8)) : (vs.flatMap byteDigits).length = 2 * vs.length := by
  induction vs with
  | nil => rfl
  | cons v vs ih => simp [List.flatMap_cons, ih]; omega

/-! ## The check (R4) -/

@[simp] theorem checkDigits_length (body : List Digit) : (checkDigits body).length = 2 := rfl

theorem checkValue_lt (body : List Digit) : checkValue body < 256 := Nat.mod_lt _ (by decide)

theorem checkValue_complements (body : List Digit) : (digitSum body + checkValue body) % 256 = 0 := by
  unfold checkValue; omega

/-- The two digits of a value below 256 give the value back. -/
theorem digits_of_value (n : Nat) (h : n < 256) :
    16 * (BitVec.ofNat 4 (n / 16)).toNat + (BitVec.ofNat 4 n).toNat = n := by
  simp only [BitVec.toNat_ofNat]; omega

/-- The check that the part sets verifies. -/
theorem checkVerifies_checkDigits (body : List Digit) : checkVerifies (body ++ checkDigits body) = true := by
  have hv := digits_of_value _ (checkValue_lt body)
  have hc := checkValue_complements body
  have hn : (body ++ checkDigits body).length - 2 = body.length := by simp
  unfold checkVerifies
  rw [hn, List.drop_left, List.take_left]
  simp only [checkDigits, decide_eq_true_eq]
  omega

/-! ## Frames -/

@[simp] theorem Frame.body_length (f : Frame) : f.body.length = 7 + f.payload.length := by
  simp [Frame.body]; omega

@[simp] theorem Frame.digits_length (f : Frame) : f.digits.length = 9 + f.payload.length := by
  simp [Frame.digits]; omega

/-- A frame of at most 15 payload digits, in the digits the part's layout gives it, is taken as intact, with its own
fields (R3, R21, R22). -/
theorem classify_digits (f : Frame) (h : f.payload.length ≤ 15) : classify .ended f.digits = .intact f := by
  have hl : (BitVec.ofNat 4 f.payload.length).toNat = f.payload.length := by
    rw [BitVec.toNat_ofNat]; omega
  have hv := checkVerifies_checkDigits f.body
  simp only [Frame.digits, Frame.body, List.cons_append, List.nil_append] at hv ⊢
  simp only [classify, ne_eq, not_true_eq_false, if_false, hl, List.length_append, checkDigits_length, badRow_rowOf,
    decide_false, Bool.or_false, Bool.false_eq_true, hv, if_true, addrOf_rowOf_colOf, List.take_left]

end Sys2Proof.Machine
end

