-- ==== Sys2Proof/Laws/State.lean ====
section
/-! SUPPORT. The field laws of the state: one lemma per field for each operation that replaces one block. -/

namespace Sys2Proof.Machine

/-! ### setMap -/

@[simp] theorem State.setMap_resetLow (s : State) (x : MapStore) : (s.setMap x).resetLow = s.resetLow := rfl
@[simp] theorem State.setMap_rate (s : State) (x : MapStore) : (s.setMap x).rate = s.rate := rfl
@[simp] theorem State.setMap_adr (s : State) (x : MapStore) : (s.setMap x).adr = s.adr := rfl
@[simp] theorem State.setMap_upRx (s : State) (x : MapStore) : (s.setMap x).upRx = s.upRx := rfl
@[simp] theorem State.setMap_spurRx (s : State) (x : MapStore) : (s.setMap x).spurRx = s.spurRx := rfl
@[simp] theorem State.setMap_gapCount (s : State) (x : MapStore) : (s.setMap x).gapCount = s.gapCount := rfl
@[simp] theorem State.setMap_map (s : State) (x : MapStore) : (s.setMap x).map = x := rfl
@[simp] theorem State.setMap_run (s : State) (x : MapStore) : (s.setMap x).run = s.run := rfl
@[simp] theorem State.setMap_merge (s : State) (x : MapStore) : (s.setMap x).merge = s.merge := rfl
@[simp] theorem State.setMap_spur (s : State) (x : MapStore) : (s.setMap x).spur = s.spur := rfl
@[simp] theorem State.setMap_line (s : State) (x : MapStore) : (s.setMap x).line = s.line := rfl
@[simp] theorem State.setMap_mgmt (s : State) (x : MapStore) : (s.setMap x).mgmt = s.mgmt := rfl
@[simp] theorem State.setMap_sup (s : State) (x : MapStore) : (s.setMap x).sup = s.sup := rfl
@[simp] theorem State.setMap_due (s : State) (x : MapStore) : (s.setMap x).due = s.due := rfl
@[simp] theorem State.setMap_choices (s : State) (x : MapStore) : (s.setMap x).choices = s.choices := rfl
@[simp] theorem State.setMap_pending (s : State) (x : MapStore) : (s.setMap x).pending = s.pending := rfl

/-! ### setRun -/

@[simp] theorem State.setRun_resetLow (s : State) (x : RunRecord) : (s.setRun x).resetLow = s.resetLow := rfl
@[simp] theorem State.setRun_rate (s : State) (x : RunRecord) : (s.setRun x).rate = s.rate := rfl
@[simp] theorem State.setRun_adr (s : State) (x : RunRecord) : (s.setRun x).adr = s.adr := rfl
@[simp] theorem State.setRun_upRx (s : State) (x : RunRecord) : (s.setRun x).upRx = s.upRx := rfl
@[simp] theorem State.setRun_spurRx (s : State) (x : RunRecord) : (s.setRun x).spurRx = s.spurRx := rfl
@[simp] theorem State.setRun_gapCount (s : State) (x : RunRecord) : (s.setRun x).gapCount = s.gapCount := rfl
@[simp] theorem State.setRun_map (s : State) (x : RunRecord) : (s.setRun x).map = s.map := rfl
@[simp] theorem State.setRun_run (s : State) (x : RunRecord) : (s.setRun x).run = x := rfl
@[simp] theorem State.setRun_merge (s : State) (x : RunRecord) : (s.setRun x).merge = s.merge := rfl
@[simp] theorem State.setRun_spur (s : State) (x : RunRecord) : (s.setRun x).spur = s.spur := rfl
@[simp] theorem State.setRun_line (s : State) (x : RunRecord) : (s.setRun x).line = s.line := rfl
@[simp] theorem State.setRun_mgmt (s : State) (x : RunRecord) : (s.setRun x).mgmt = s.mgmt := rfl
@[simp] theorem State.setRun_sup (s : State) (x : RunRecord) : (s.setRun x).sup = s.sup := rfl
@[simp] theorem State.setRun_due (s : State) (x : RunRecord) : (s.setRun x).due = s.due := rfl
@[simp] theorem State.setRun_choices (s : State) (x : RunRecord) : (s.setRun x).choices = s.choices := rfl
@[simp] theorem State.setRun_pending (s : State) (x : RunRecord) : (s.setRun x).pending = s.pending := rfl

/-! ### setMerge -/

@[simp] theorem State.setMerge_resetLow (s : State) (x : Merge) : (s.setMerge x).resetLow = s.resetLow := rfl
@[simp] theorem State.setMerge_rate (s : State) (x : Merge) : (s.setMerge x).rate = s.rate := rfl
@[simp] theorem State.setMerge_adr (s : State) (x : Merge) : (s.setMerge x).adr = s.adr := rfl
@[simp] theorem State.setMerge_upRx (s : State) (x : Merge) : (s.setMerge x).upRx = s.upRx := rfl
@[simp] theorem State.setMerge_spurRx (s : State) (x : Merge) : (s.setMerge x).spurRx = s.spurRx := rfl
@[simp] theorem State.setMerge_gapCount (s : State) (x : Merge) : (s.setMerge x).gapCount = s.gapCount := rfl
@[simp] theorem State.setMerge_map (s : State) (x : Merge) : (s.setMerge x).map = s.map := rfl
@[simp] theorem State.setMerge_run (s : State) (x : Merge) : (s.setMerge x).run = s.run := rfl
@[simp] theorem State.setMerge_merge (s : State) (x : Merge) : (s.setMerge x).merge = x := rfl
@[simp] theorem State.setMerge_spur (s : State) (x : Merge) : (s.setMerge x).spur = s.spur := rfl
@[simp] theorem State.setMerge_line (s : State) (x : Merge) : (s.setMerge x).line = s.line := rfl
@[simp] theorem State.setMerge_mgmt (s : State) (x : Merge) : (s.setMerge x).mgmt = s.mgmt := rfl
@[simp] theorem State.setMerge_sup (s : State) (x : Merge) : (s.setMerge x).sup = s.sup := rfl
@[simp] theorem State.setMerge_due (s : State) (x : Merge) : (s.setMerge x).due = s.due := rfl
@[simp] theorem State.setMerge_choices (s : State) (x : Merge) : (s.setMerge x).choices = s.choices := rfl
@[simp] theorem State.setMerge_pending (s : State) (x : Merge) : (s.setMerge x).pending = s.pending := rfl

/-! ### setSpur -/

@[simp] theorem State.setSpur_resetLow (s : State) (x : SpurUnit) : (s.setSpur x).resetLow = s.resetLow := rfl
@[simp] theorem State.setSpur_rate (s : State) (x : SpurUnit) : (s.setSpur x).rate = s.rate := rfl
@[simp] theorem State.setSpur_adr (s : State) (x : SpurUnit) : (s.setSpur x).adr = s.adr := rfl
@[simp] theorem State.setSpur_upRx (s : State) (x : SpurUnit) : (s.setSpur x).upRx = s.upRx := rfl
@[simp] theorem State.setSpur_spurRx (s : State) (x : SpurUnit) : (s.setSpur x).spurRx = s.spurRx := rfl
@[simp] theorem State.setSpur_gapCount (s : State) (x : SpurUnit) : (s.setSpur x).gapCount = s.gapCount := rfl
@[simp] theorem State.setSpur_map (s : State) (x : SpurUnit) : (s.setSpur x).map = s.map := rfl
@[simp] theorem State.setSpur_run (s : State) (x : SpurUnit) : (s.setSpur x).run = s.run := rfl
@[simp] theorem State.setSpur_merge (s : State) (x : SpurUnit) : (s.setSpur x).merge = s.merge := rfl
@[simp] theorem State.setSpur_spur (s : State) (x : SpurUnit) : (s.setSpur x).spur = x := rfl
@[simp] theorem State.setSpur_line (s : State) (x : SpurUnit) : (s.setSpur x).line = s.line := rfl
@[simp] theorem State.setSpur_mgmt (s : State) (x : SpurUnit) : (s.setSpur x).mgmt = s.mgmt := rfl
@[simp] theorem State.setSpur_sup (s : State) (x : SpurUnit) : (s.setSpur x).sup = s.sup := rfl
@[simp] theorem State.setSpur_due (s : State) (x : SpurUnit) : (s.setSpur x).due = s.due := rfl
@[simp] theorem State.setSpur_choices (s : State) (x : SpurUnit) : (s.setSpur x).choices = s.choices := rfl
@[simp] theorem State.setSpur_pending (s : State) (x : SpurUnit) : (s.setSpur x).pending = s.pending := rfl

/-! ### setLines -/

@[simp] theorem State.setLines_resetLow (s : State) (x : LineBlock) : (s.setLines x).resetLow = s.resetLow := rfl
@[simp] theorem State.setLines_rate (s : State) (x : LineBlock) : (s.setLines x).rate = s.rate := rfl
@[simp] theorem State.setLines_adr (s : State) (x : LineBlock) : (s.setLines x).adr = s.adr := rfl
@[simp] theorem State.setLines_upRx (s : State) (x : LineBlock) : (s.setLines x).upRx = s.upRx := rfl
@[simp] theorem State.setLines_spurRx (s : State) (x : LineBlock) : (s.setLines x).spurRx = s.spurRx := rfl
@[simp] theorem State.setLines_gapCount (s : State) (x : LineBlock) : (s.setLines x).gapCount = s.gapCount := rfl
@[simp] theorem State.setLines_map (s : State) (x : LineBlock) : (s.setLines x).map = s.map := rfl
@[simp] theorem State.setLines_run (s : State) (x : LineBlock) : (s.setLines x).run = s.run := rfl
@[simp] theorem State.setLines_merge (s : State) (x : LineBlock) : (s.setLines x).merge = s.merge := rfl
@[simp] theorem State.setLines_spur (s : State) (x : LineBlock) : (s.setLines x).spur = s.spur := rfl
@[simp] theorem State.setLines_line (s : State) (x : LineBlock) : (s.setLines x).line = x := rfl
@[simp] theorem State.setLines_mgmt (s : State) (x : LineBlock) : (s.setLines x).mgmt = s.mgmt := rfl
@[simp] theorem State.setLines_sup (s : State) (x : LineBlock) : (s.setLines x).sup = s.sup := rfl
@[simp] theorem State.setLines_due (s : State) (x : LineBlock) : (s.setLines x).due = s.due := rfl
@[simp] theorem State.setLines_choices (s : State) (x : LineBlock) : (s.setLines x).choices = s.choices := rfl
@[simp] theorem State.setLines_pending (s : State) (x : LineBlock) : (s.setLines x).pending = s.pending := rfl

/-! ### setMgmt -/

@[simp] theorem State.setMgmt_resetLow (s : State) (x : Management) : (s.setMgmt x).resetLow = s.resetLow := rfl
@[simp] theorem State.setMgmt_rate (s : State) (x : Management) : (s.setMgmt x).rate = s.rate := rfl
@[simp] theorem State.setMgmt_adr (s : State) (x : Management) : (s.setMgmt x).adr = s.adr := rfl
@[simp] theorem State.setMgmt_upRx (s : State) (x : Management) : (s.setMgmt x).upRx = s.upRx := rfl
@[simp] theorem State.setMgmt_spurRx (s : State) (x : Management) : (s.setMgmt x).spurRx = s.spurRx := rfl
@[simp] theorem State.setMgmt_gapCount (s : State) (x : Management) : (s.setMgmt x).gapCount = s.gapCount := rfl
@[simp] theorem State.setMgmt_map (s : State) (x : Management) : (s.setMgmt x).map = s.map := rfl
@[simp] theorem State.setMgmt_run (s : State) (x : Management) : (s.setMgmt x).run = s.run := rfl
@[simp] theorem State.setMgmt_merge (s : State) (x : Management) : (s.setMgmt x).merge = s.merge := rfl
@[simp] theorem State.setMgmt_spur (s : State) (x : Management) : (s.setMgmt x).spur = s.spur := rfl
@[simp] theorem State.setMgmt_line (s : State) (x : Management) : (s.setMgmt x).line = s.line := rfl
@[simp] theorem State.setMgmt_mgmt (s : State) (x : Management) : (s.setMgmt x).mgmt = x := rfl
@[simp] theorem State.setMgmt_sup (s : State) (x : Management) : (s.setMgmt x).sup = s.sup := rfl
@[simp] theorem State.setMgmt_due (s : State) (x : Management) : (s.setMgmt x).due = s.due := rfl
@[simp] theorem State.setMgmt_choices (s : State) (x : Management) : (s.setMgmt x).choices = s.choices := rfl
@[simp] theorem State.setMgmt_pending (s : State) (x : Management) : (s.setMgmt x).pending = s.pending := rfl

/-! ### setSup -/

@[simp] theorem State.setSup_resetLow (s : State) (x : Supervision) : (s.setSup x).resetLow = s.resetLow := rfl
@[simp] theorem State.setSup_rate (s : State) (x : Supervision) : (s.setSup x).rate = s.rate := rfl
@[simp] theorem State.setSup_adr (s : State) (x : Supervision) : (s.setSup x).adr = s.adr := rfl
@[simp] theorem State.setSup_upRx (s : State) (x : Supervision) : (s.setSup x).upRx = s.upRx := rfl
@[simp] theorem State.setSup_spurRx (s : State) (x : Supervision) : (s.setSup x).spurRx = s.spurRx := rfl
@[simp] theorem State.setSup_gapCount (s : State) (x : Supervision) : (s.setSup x).gapCount = s.gapCount := rfl
@[simp] theorem State.setSup_map (s : State) (x : Supervision) : (s.setSup x).map = s.map := rfl
@[simp] theorem State.setSup_run (s : State) (x : Supervision) : (s.setSup x).run = s.run := rfl
@[simp] theorem State.setSup_merge (s : State) (x : Supervision) : (s.setSup x).merge = s.merge := rfl
@[simp] theorem State.setSup_spur (s : State) (x : Supervision) : (s.setSup x).spur = s.spur := rfl
@[simp] theorem State.setSup_line (s : State) (x : Supervision) : (s.setSup x).line = s.line := rfl
@[simp] theorem State.setSup_mgmt (s : State) (x : Supervision) : (s.setSup x).mgmt = s.mgmt := rfl
@[simp] theorem State.setSup_sup (s : State) (x : Supervision) : (s.setSup x).sup = x := rfl
@[simp] theorem State.setSup_due (s : State) (x : Supervision) : (s.setSup x).due = s.due := rfl
@[simp] theorem State.setSup_choices (s : State) (x : Supervision) : (s.setSup x).choices = s.choices := rfl
@[simp] theorem State.setSup_pending (s : State) (x : Supervision) : (s.setSup x).pending = s.pending := rfl

/-! ### setGapCount -/

@[simp] theorem State.setGapCount_resetLow (s : State) (x : Nat) : (s.setGapCount x).resetLow = s.resetLow := rfl
@[simp] theorem State.setGapCount_rate (s : State) (x : Nat) : (s.setGapCount x).rate = s.rate := rfl
@[simp] theorem State.setGapCount_adr (s : State) (x : Nat) : (s.setGapCount x).adr = s.adr := rfl
@[simp] theorem State.setGapCount_upRx (s : State) (x : Nat) : (s.setGapCount x).upRx = s.upRx := rfl
@[simp] theorem State.setGapCount_spurRx (s : State) (x : Nat) : (s.setGapCount x).spurRx = s.spurRx := rfl
@[simp] theorem State.setGapCount_gapCount (s : State) (x : Nat) : (s.setGapCount x).gapCount = x := rfl
@[simp] theorem State.setGapCount_map (s : State) (x : Nat) : (s.setGapCount x).map = s.map := rfl
@[simp] theorem State.setGapCount_run (s : State) (x : Nat) : (s.setGapCount x).run = s.run := rfl
@[simp] theorem State.setGapCount_merge (s : State) (x : Nat) : (s.setGapCount x).merge = s.merge := rfl
@[simp] theorem State.setGapCount_spur (s : State) (x : Nat) : (s.setGapCount x).spur = s.spur := rfl
@[simp] theorem State.setGapCount_line (s : State) (x : Nat) : (s.setGapCount x).line = s.line := rfl
@[simp] theorem State.setGapCount_mgmt (s : State) (x : Nat) : (s.setGapCount x).mgmt = s.mgmt := rfl
@[simp] theorem State.setGapCount_sup (s : State) (x : Nat) : (s.setGapCount x).sup = s.sup := rfl
@[simp] theorem State.setGapCount_due (s : State) (x : Nat) : (s.setGapCount x).due = s.due := rfl
@[simp] theorem State.setGapCount_choices (s : State) (x : Nat) : (s.setGapCount x).choices = s.choices := rfl
@[simp] theorem State.setGapCount_pending (s : State) (x : Nat) : (s.setGapCount x).pending = s.pending := rfl

/-! ### setDue -/

@[simp] theorem State.setDue_resetLow (s : State) (x : List Due) : (s.setDue x).resetLow = s.resetLow := rfl
@[simp] theorem State.setDue_rate (s : State) (x : List Due) : (s.setDue x).rate = s.rate := rfl
@[simp] theorem State.setDue_adr (s : State) (x : List Due) : (s.setDue x).adr = s.adr := rfl
@[simp] theorem State.setDue_upRx (s : State) (x : List Due) : (s.setDue x).upRx = s.upRx := rfl
@[simp] theorem State.setDue_spurRx (s : State) (x : List Due) : (s.setDue x).spurRx = s.spurRx := rfl
@[simp] theorem State.setDue_gapCount (s : State) (x : List Due) : (s.setDue x).gapCount = s.gapCount := rfl
@[simp] theorem State.setDue_map (s : State) (x : List Due) : (s.setDue x).map = s.map := rfl
@[simp] theorem State.setDue_run (s : State) (x : List Due) : (s.setDue x).run = s.run := rfl
@[simp] theorem State.setDue_merge (s : State) (x : List Due) : (s.setDue x).merge = s.merge := rfl
@[simp] theorem State.setDue_spur (s : State) (x : List Due) : (s.setDue x).spur = s.spur := rfl
@[simp] theorem State.setDue_line (s : State) (x : List Due) : (s.setDue x).line = s.line := rfl
@[simp] theorem State.setDue_mgmt (s : State) (x : List Due) : (s.setDue x).mgmt = s.mgmt := rfl
@[simp] theorem State.setDue_sup (s : State) (x : List Due) : (s.setDue x).sup = s.sup := rfl
@[simp] theorem State.setDue_due (s : State) (x : List Due) : (s.setDue x).due = x := rfl
@[simp] theorem State.setDue_choices (s : State) (x : List Due) : (s.setDue x).choices = s.choices := rfl
@[simp] theorem State.setDue_pending (s : State) (x : List Due) : (s.setDue x).pending = s.pending := rfl

/-! ### addDue -/

@[simp] theorem State.addDue_resetLow (s : State) (d : Due) : (s.addDue d).resetLow = s.resetLow := rfl
@[simp] theorem State.addDue_rate (s : State) (d : Due) : (s.addDue d).rate = s.rate := rfl
@[simp] theorem State.addDue_adr (s : State) (d : Due) : (s.addDue d).adr = s.adr := rfl
@[simp] theorem State.addDue_upRx (s : State) (d : Due) : (s.addDue d).upRx = s.upRx := rfl
@[simp] theorem State.addDue_spurRx (s : State) (d : Due) : (s.addDue d).spurRx = s.spurRx := rfl
@[simp] theorem State.addDue_gapCount (s : State) (d : Due) : (s.addDue d).gapCount = s.gapCount := rfl
@[simp] theorem State.addDue_map (s : State) (d : Due) : (s.addDue d).map = s.map := rfl
@[simp] theorem State.addDue_run (s : State) (d : Due) : (s.addDue d).run = s.run := rfl
@[simp] theorem State.addDue_merge (s : State) (d : Due) : (s.addDue d).merge = s.merge := rfl
@[simp] theorem State.addDue_spur (s : State) (d : Due) : (s.addDue d).spur = s.spur := rfl
@[simp] theorem State.addDue_line (s : State) (d : Due) : (s.addDue d).line = s.line := rfl
@[simp] theorem State.addDue_mgmt (s : State) (d : Due) : (s.addDue d).mgmt = s.mgmt := rfl
@[simp] theorem State.addDue_sup (s : State) (d : Due) : (s.addDue d).sup = s.sup := rfl
@[simp] theorem State.addDue_due (s : State) (d : Due) : (s.addDue d).due = s.due ++ [d] := rfl
@[simp] theorem State.addDue_choices (s : State) (d : Due) : (s.addDue d).choices = s.choices := rfl
@[simp] theorem State.addDue_pending (s : State) (d : Due) : (s.addDue d).pending = s.pending := rfl

/-! ### consume -/

@[simp] theorem State.consume_resetLow (s : State) : s.consume.resetLow = s.resetLow := rfl
@[simp] theorem State.consume_rate (s : State) : s.consume.rate = s.rate := rfl
@[simp] theorem State.consume_adr (s : State) : s.consume.adr = s.adr := rfl
@[simp] theorem State.consume_upRx (s : State) : s.consume.upRx = s.upRx := rfl
@[simp] theorem State.consume_spurRx (s : State) : s.consume.spurRx = s.spurRx := rfl
@[simp] theorem State.consume_gapCount (s : State) : s.consume.gapCount = s.gapCount := rfl
@[simp] theorem State.consume_map (s : State) : s.consume.map = s.map := rfl
@[simp] theorem State.consume_run (s : State) : s.consume.run = s.run := rfl
@[simp] theorem State.consume_merge (s : State) : s.consume.merge = s.merge := rfl
@[simp] theorem State.consume_spur (s : State) : s.consume.spur = s.spur := rfl
@[simp] theorem State.consume_line (s : State) : s.consume.line = s.line := rfl
@[simp] theorem State.consume_mgmt (s : State) : s.consume.mgmt = s.mgmt := rfl
@[simp] theorem State.consume_sup (s : State) : s.consume.sup = s.sup := rfl
@[simp] theorem State.consume_due (s : State) : s.consume.due = s.due := rfl
@[simp] theorem State.consume_choices (s : State) : s.consume.choices = s.choices + 1 := rfl
@[simp] theorem State.consume_pending (s : State) : s.consume.pending = s.pending := rfl

/-! ### setRx -/

@[simp] theorem State.setRx_resetLow (s : State) (p : Port) (x : Receiver) : (s.setRx p x).resetLow = s.resetLow := by cases p <;> rfl
@[simp] theorem State.setRx_rate (s : State) (p : Port) (x : Receiver) : (s.setRx p x).rate = s.rate := by cases p <;> rfl
@[simp] theorem State.setRx_adr (s : State) (p : Port) (x : Receiver) : (s.setRx p x).adr = s.adr := by cases p <;> rfl
@[simp] theorem State.setRx_gapCount (s : State) (p : Port) (x : Receiver) : (s.setRx p x).gapCount = s.gapCount := by cases p <;> rfl
@[simp] theorem State.setRx_map (s : State) (p : Port) (x : Receiver) : (s.setRx p x).map = s.map := by cases p <;> rfl
@[simp] theorem State.setRx_run (s : State) (p : Port) (x : Receiver) : (s.setRx p x).run = s.run := by cases p <;> rfl
@[simp] theorem State.setRx_merge (s : State) (p : Port) (x : Receiver) : (s.setRx p x).merge = s.merge := by cases p <;> rfl
@[simp] theorem State.setRx_spur (s : State) (p : Port) (x : Receiver) : (s.setRx p x).spur = s.spur := by cases p <;> rfl
@[simp] theorem State.setRx_line (s : State) (p : Port) (x : Receiver) : (s.setRx p x).line = s.line := by cases p <;> rfl
@[simp] theorem State.setRx_mgmt (s : State) (p : Port) (x : Receiver) : (s.setRx p x).mgmt = s.mgmt := by cases p <;> rfl
@[simp] theorem State.setRx_sup (s : State) (p : Port) (x : Receiver) : (s.setRx p x).sup = s.sup := by cases p <;> rfl
@[simp] theorem State.setRx_due (s : State) (p : Port) (x : Receiver) : (s.setRx p x).due = s.due := by cases p <;> rfl
@[simp] theorem State.setRx_choices (s : State) (p : Port) (x : Receiver) : (s.setRx p x).choices = s.choices := by cases p <;> rfl
@[simp] theorem State.setRx_pending (s : State) (p : Port) (x : Receiver) : (s.setRx p x).pending = s.pending := by cases p <;> rfl

@[simp] theorem State.setRx_upstream_upRx (s : State) (x : Receiver) : (s.setRx .upstream x).upRx = x := rfl
@[simp] theorem State.setRx_upstream_spurRx (s : State) (x : Receiver) : (s.setRx .upstream x).spurRx = s.spurRx := rfl
@[simp] theorem State.setRx_spur_upRx (s : State) (x : Receiver) : (s.setRx .spur x).upRx = s.upRx := rfl
@[simp] theorem State.setRx_spur_spurRx (s : State) (x : Receiver) : (s.setRx .spur x).spurRx = x := rfl
@[simp] theorem State.rx_setRx (s : State) (p : Port) (x : Receiver) : (s.setRx p x).rx p = x := by cases p <;> rfl
@[simp] theorem State.rx_upstream (s : State) : s.rx .upstream = s.upRx := rfl
@[simp] theorem State.rx_spur (s : State) : s.rx .spur = s.spurRx := rfl

end Sys2Proof.Machine
end

