-- ==== Sys2Proof/Laws/Ops.lean ====
section
/-! SUPPORT. What the shared operations of the stores, the arbiters and the latches can do: one lemma that says each
operation's effect, and its frame. -/

namespace Sys2Proof.Machine

/-! ## The downstream grant (R96 to R99) -/

/-- No grant is made to a transmitter that is not READY. -/
theorem State.grantDown_of_not_ready {s : State} (h : s.merge.tx ≠ .ready) : s.grantDown = s := by
  unfold State.grantDown; rw [if_neg h]

/-- R97: a READY transmitter is granted the reply slot's frame first, and the pointer stays. -/
theorem State.grantDown_reply {s : State} {ds : List Digit} (h : s.merge.tx = .ready) (hr : s.mgmt.reply = .full ds) :
    s.grantDown = (s.setMerge { s.merge with tx := .send .reply 0 }).setMgmt { s.mgmt with reply := .sending ds } := by
  unfold State.grantDown; rw [if_pos h, hr]

/-- R98: with no reply waiting, a READY transmitter is granted the winner of the cycle, and the pointer moves past it. -/
theorem State.grantDown_queue {s : State} {i : Fin 4} (h : s.merge.tx = .ready) (hr : ∀ ds, s.mgmt.reply ≠ .full ds)
    (hw : s.cycleWinner = some i) :
    s.grantDown = s.setMerge { s.merge with tx := .send (cycleSource i) 0, pointer := i + 1 } := by
  unfold State.grantDown; rw [if_pos h]
  split
  · rename_i ds heq; exact absurd heq (hr ds)
  · rw [hw]

/-- R96: with nothing waiting, a READY transmitter stays READY. -/
theorem State.grantDown_none {s : State} (hr : ∀ ds, s.mgmt.reply ≠ .full ds) (hw : s.cycleWinner = none) :
    s.grantDown = s := by
  unfold State.grantDown
  split
  · split
    · rename_i ds heq; exact absurd heq (hr ds)
    · rw [hw]
  · rfl

@[simp] theorem State.grantDown_resetLow (s : State) : (s.grantDown).resetLow = s.resetLow := by
  unfold State.grantDown; (repeat' split) <;> rfl
@[simp] theorem State.grantDown_rate (s : State) : (s.grantDown).rate = s.rate := by
  unfold State.grantDown; (repeat' split) <;> rfl
@[simp] theorem State.grantDown_adr (s : State) : (s.grantDown).adr = s.adr := by
  unfold State.grantDown; (repeat' split) <;> rfl
@[simp] theorem State.grantDown_upRx (s : State) : (s.grantDown).upRx = s.upRx := by
  unfold State.grantDown; (repeat' split) <;> rfl
@[simp] theorem State.grantDown_spurRx (s : State) : (s.grantDown).spurRx = s.spurRx := by
  unfold State.grantDown; (repeat' split) <;> rfl
@[simp] theorem State.grantDown_gapCount (s : State) : (s.grantDown).gapCount = s.gapCount := by
  unfold State.grantDown; (repeat' split) <;> rfl
@[simp] theorem State.grantDown_map (s : State) : (s.grantDown).map = s.map := by
  unfold State.grantDown; (repeat' split) <;> rfl
@[simp] theorem State.grantDown_run (s : State) : (s.grantDown).run = s.run := by
  unfold State.grantDown; (repeat' split) <;> rfl
@[simp] theorem State.grantDown_spur (s : State) : (s.grantDown).spur = s.spur := by
  unfold State.grantDown; (repeat' split) <;> rfl
@[simp] theorem State.grantDown_line (s : State) : (s.grantDown).line = s.line := by
  unfold State.grantDown; (repeat' split) <;> rfl
@[simp] theorem State.grantDown_sup (s : State) : (s.grantDown).sup = s.sup := by
  unfold State.grantDown; (repeat' split) <;> rfl
@[simp] theorem State.grantDown_due (s : State) : (s.grantDown).due = s.due := by
  unfold State.grantDown; (repeat' split) <;> rfl
@[simp] theorem State.grantDown_choices (s : State) : (s.grantDown).choices = s.choices := by
  unfold State.grantDown; (repeat' split) <;> rfl
@[simp] theorem State.grantDown_pending (s : State) : (s.grantDown).pending = s.pending := by
  unfold State.grantDown; (repeat' split) <;> rfl
@[simp] theorem State.grantDown_merge_transit (s : State) : (s.grantDown).merge.transit = s.merge.transit := by
  unfold State.grantDown; (repeat' split) <;> rfl
@[simp] theorem State.grantDown_merge_spurReturn (s : State) : (s.grantDown).merge.spurReturn = s.merge.spurReturn := by
  unfold State.grantDown; (repeat' split) <;> rfl
@[simp] theorem State.grantDown_merge_insertion (s : State) : (s.grantDown).merge.insertion = s.merge.insertion := by
  unfold State.grantDown; (repeat' split) <;> rfl
@[simp] theorem State.grantDown_merge_dout (s : State) : (s.grantDown).merge.dout = s.merge.dout := by
  unfold State.grantDown; (repeat' split) <;> rfl
@[simp] theorem State.grantDown_mgmt_manager0 (s : State) : (s.grantDown).mgmt.manager0 = s.mgmt.manager0 := by
  unfold State.grantDown; (repeat' split) <;> rfl
@[simp] theorem State.grantDown_mgmt_manager1 (s : State) : (s.grantDown).mgmt.manager1 = s.mgmt.manager1 := by
  unfold State.grantDown; (repeat' split) <;> rfl
@[simp] theorem State.grantDown_mgmt_last (s : State) : (s.grantDown).mgmt.last = s.mgmt.last := by
  unfold State.grantDown; (repeat' split) <;> rfl
@[simp] theorem State.grantDown_mgmt_commit (s : State) : (s.grantDown).mgmt.commit = s.mgmt.commit := by
  unfold State.grantDown; (repeat' split) <;> rfl

/-! ## The spur grant (R104) -/

@[simp] theorem State.grantSpur_resetLow (s : State) : (s.grantSpur).resetLow = s.resetLow := by
  unfold State.grantSpur; split <;> rfl
@[simp] theorem State.grantSpur_rate (s : State) : (s.grantSpur).rate = s.rate := by
  unfold State.grantSpur; split <;> rfl
@[simp] theorem State.grantSpur_adr (s : State) : (s.grantSpur).adr = s.adr := by
  unfold State.grantSpur; split <;> rfl
@[simp] theorem State.grantSpur_upRx (s : State) : (s.grantSpur).upRx = s.upRx := by
  unfold State.grantSpur; split <;> rfl
@[simp] theorem State.grantSpur_spurRx (s : State) : (s.grantSpur).spurRx = s.spurRx := by
  unfold State.grantSpur; split <;> rfl
@[simp] theorem State.grantSpur_gapCount (s : State) : (s.grantSpur).gapCount = s.gapCount := by
  unfold State.grantSpur; split <;> rfl
@[simp] theorem State.grantSpur_map (s : State) : (s.grantSpur).map = s.map := by
  unfold State.grantSpur; split <;> rfl
@[simp] theorem State.grantSpur_run (s : State) : (s.grantSpur).run = s.run := by
  unfold State.grantSpur; split <;> rfl
@[simp] theorem State.grantSpur_merge (s : State) : (s.grantSpur).merge = s.merge := by
  unfold State.grantSpur; split <;> rfl
@[simp] theorem State.grantSpur_line (s : State) : (s.grantSpur).line = s.line := by
  unfold State.grantSpur; split <;> rfl
@[simp] theorem State.grantSpur_mgmt (s : State) : (s.grantSpur).mgmt = s.mgmt := by
  unfold State.grantSpur; split <;> rfl
@[simp] theorem State.grantSpur_sup (s : State) : (s.grantSpur).sup = s.sup := by
  unfold State.grantSpur; split <;> rfl
@[simp] theorem State.grantSpur_due (s : State) : (s.grantSpur).due = s.due := by
  unfold State.grantSpur; split <;> rfl
@[simp] theorem State.grantSpur_choices (s : State) : (s.grantSpur).choices = s.choices := by
  unfold State.grantSpur; split <;> rfl
@[simp] theorem State.grantSpur_pending (s : State) : (s.grantSpur).pending = s.pending := by
  unfold State.grantSpur; split <;> rfl
@[simp] theorem State.grantSpur_spur_state (s : State) : (s.grantSpur).spur.state = s.spur.state := by
  unfold State.grantSpur; split <;> rfl
@[simp] theorem State.grantSpur_spur_watchTime (s : State) : (s.grantSpur).spur.watchTime = s.spur.watchTime := by
  unfold State.grantSpur; split <;> rfl
@[simp] theorem State.grantSpur_spur_watchCount (s : State) : (s.grantSpur).spur.watchCount = s.spur.watchCount := by
  unfold State.grantSpur; split <;> rfl
@[simp] theorem State.grantSpur_spur_restoreCount (s : State) : (s.grantSpur).spur.restoreCount = s.spur.restoreCount := by
  unfold State.grantSpur; split <;> rfl
@[simp] theorem State.grantSpur_spur_queue (s : State) : (s.grantSpur).spur.queue = s.spur.queue := by
  unfold State.grantSpur; split <;> rfl
@[simp] theorem State.grantSpur_spur_sout (s : State) : (s.grantSpur).spur.sout = s.spur.sout := by
  unfold State.grantSpur; split <;> rfl

/-! ## Entries (R28, R94, R144) -/

@[simp] theorem State.insert_resetLow (s : State) (h : Held) : (s.insert h).resetLow = s.resetLow := by
  simp [State.insert]
@[simp] theorem State.insert_rate (s : State) (h : Held) : (s.insert h).rate = s.rate := by
  simp [State.insert]
@[simp] theorem State.insert_adr (s : State) (h : Held) : (s.insert h).adr = s.adr := by
  simp [State.insert]
@[simp] theorem State.insert_upRx (s : State) (h : Held) : (s.insert h).upRx = s.upRx := by
  simp [State.insert]
@[simp] theorem State.insert_spurRx (s : State) (h : Held) : (s.insert h).spurRx = s.spurRx := by
  simp [State.insert]
@[simp] theorem State.insert_gapCount (s : State) (h : Held) : (s.insert h).gapCount = s.gapCount := by
  simp [State.insert]
@[simp] theorem State.insert_map (s : State) (h : Held) : (s.insert h).map = s.map := by
  simp [State.insert]
@[simp] theorem State.insert_run (s : State) (h : Held) : (s.insert h).run = s.run := by
  simp [State.insert]
@[simp] theorem State.insert_spur (s : State) (h : Held) : (s.insert h).spur = s.spur := by
  simp [State.insert]
@[simp] theorem State.insert_line (s : State) (h : Held) : (s.insert h).line = s.line := by
  simp [State.insert]
@[simp] theorem State.insert_sup (s : State) (h : Held) : (s.insert h).sup = s.sup := by
  simp [State.insert]
@[simp] theorem State.insert_due (s : State) (h : Held) : (s.insert h).due = s.due := by
  simp [State.insert]
@[simp] theorem State.insert_choices (s : State) (h : Held) : (s.insert h).choices = s.choices := by
  simp [State.insert]
@[simp] theorem State.insert_pending (s : State) (h : Held) : (s.insert h).pending = s.pending := by
  simp [State.insert]
@[simp] theorem State.insert_merge_transit (s : State) (h : Held) : (s.insert h).merge.transit = s.merge.transit := by
  simp [State.insert]
@[simp] theorem State.insert_merge_spurReturn (s : State) (h : Held) : (s.insert h).merge.spurReturn = s.merge.spurReturn := by
  simp [State.insert]
@[simp] theorem State.insert_merge_dout (s : State) (h : Held) : (s.insert h).merge.dout = s.merge.dout := by
  simp [State.insert]
@[simp] theorem State.insert_mgmt_manager0 (s : State) (h : Held) : (s.insert h).mgmt.manager0 = s.mgmt.manager0 := by
  simp [State.insert]
@[simp] theorem State.insert_mgmt_manager1 (s : State) (h : Held) : (s.insert h).mgmt.manager1 = s.mgmt.manager1 := by
  simp [State.insert]
@[simp] theorem State.insert_mgmt_last (s : State) (h : Held) : (s.insert h).mgmt.last = s.mgmt.last := by
  simp [State.insert]
@[simp] theorem State.insert_mgmt_commit (s : State) (h : Held) : (s.insert h).mgmt.commit = s.mgmt.commit := by
  simp [State.insert]
@[simp] theorem State.insert_merge_insertion (s : State) (h : Held) :
    (s.insert h).merge.insertion = s.merge.insertion ++ [h] := by simp [State.insert]
@[simp] theorem State.fillReply_resetLow (s : State) (ds : List Digit) : (s.fillReply ds).resetLow = s.resetLow := by
  simp [State.fillReply]
@[simp] theorem State.fillReply_rate (s : State) (ds : List Digit) : (s.fillReply ds).rate = s.rate := by
  simp [State.fillReply]
@[simp] theorem State.fillReply_adr (s : State) (ds : List Digit) : (s.fillReply ds).adr = s.adr := by
  simp [State.fillReply]
@[simp] theorem State.fillReply_upRx (s : State) (ds : List Digit) : (s.fillReply ds).upRx = s.upRx := by
  simp [State.fillReply]
@[simp] theorem State.fillReply_spurRx (s : State) (ds : List Digit) : (s.fillReply ds).spurRx = s.spurRx := by
  simp [State.fillReply]
@[simp] theorem State.fillReply_gapCount (s : State) (ds : List Digit) : (s.fillReply ds).gapCount = s.gapCount := by
  simp [State.fillReply]
@[simp] theorem State.fillReply_map (s : State) (ds : List Digit) : (s.fillReply ds).map = s.map := by
  simp [State.fillReply]
@[simp] theorem State.fillReply_run (s : State) (ds : List Digit) : (s.fillReply ds).run = s.run := by
  simp [State.fillReply]
@[simp] theorem State.fillReply_spur (s : State) (ds : List Digit) : (s.fillReply ds).spur = s.spur := by
  simp [State.fillReply]
@[simp] theorem State.fillReply_line (s : State) (ds : List Digit) : (s.fillReply ds).line = s.line := by
  simp [State.fillReply]
@[simp] theorem State.fillReply_sup (s : State) (ds : List Digit) : (s.fillReply ds).sup = s.sup := by
  simp [State.fillReply]
@[simp] theorem State.fillReply_due (s : State) (ds : List Digit) : (s.fillReply ds).due = s.due := by
  simp [State.fillReply]
@[simp] theorem State.fillReply_choices (s : State) (ds : List Digit) : (s.fillReply ds).choices = s.choices := by
  simp [State.fillReply]
@[simp] theorem State.fillReply_pending (s : State) (ds : List Digit) : (s.fillReply ds).pending = s.pending := by
  simp [State.fillReply]
@[simp] theorem State.fillReply_merge_transit (s : State) (ds : List Digit) : (s.fillReply ds).merge.transit = s.merge.transit := by
  simp [State.fillReply]
@[simp] theorem State.fillReply_merge_spurReturn (s : State) (ds : List Digit) : (s.fillReply ds).merge.spurReturn = s.merge.spurReturn := by
  simp [State.fillReply]
@[simp] theorem State.fillReply_merge_insertion (s : State) (ds : List Digit) : (s.fillReply ds).merge.insertion = s.merge.insertion := by
  simp [State.fillReply]
@[simp] theorem State.fillReply_merge_dout (s : State) (ds : List Digit) : (s.fillReply ds).merge.dout = s.merge.dout := by
  simp [State.fillReply]
@[simp] theorem State.fillReply_mgmt_manager0 (s : State) (ds : List Digit) : (s.fillReply ds).mgmt.manager0 = s.mgmt.manager0 := by
  simp [State.fillReply]
@[simp] theorem State.fillReply_mgmt_manager1 (s : State) (ds : List Digit) : (s.fillReply ds).mgmt.manager1 = s.mgmt.manager1 := by
  simp [State.fillReply]
@[simp] theorem State.fillReply_mgmt_last (s : State) (ds : List Digit) : (s.fillReply ds).mgmt.last = s.mgmt.last := by
  simp [State.fillReply]
@[simp] theorem State.fillReply_mgmt_commit (s : State) (ds : List Digit) : (s.fillReply ds).mgmt.commit = s.mgmt.commit := by
  simp [State.fillReply]

/-- R96, R144: the reply slot becomes FULL; a READY transmitter is granted it at once. -/
theorem State.fillReply_eq (s : State) (ds : List Digit) :
    s.fillReply ds =
      if s.merge.tx = .ready then
        (s.setMerge { s.merge with tx := .send .reply 0 }).setMgmt { s.mgmt with reply := .sending ds }
      else s.setMgmt { s.mgmt with reply := .full ds } := by
  by_cases h : s.merge.tx = .ready
  · rw [if_pos h, State.fillReply, State.grantDown_reply (ds := ds) (by simpa using h) (by simp)]; rfl
  · rw [if_neg h, State.fillReply, State.grantDown_of_not_ready (by simpa using h)]

/-- An entry in the transit queue adds the frames at its tail. -/
@[simp] theorem State.enter_transit (s : State) (hs : List Held) :
    (s.enter .transit hs).merge.transit = s.merge.transit ++ hs := by simp [State.enter]
@[simp] theorem State.enter_transit_spurReturn (s : State) (hs : List Held) :
    (s.enter .transit hs).merge.spurReturn = s.merge.spurReturn := by simp [State.enter]
@[simp] theorem State.enter_transit_spur (s : State) (hs : List Held) :
    (s.enter .transit hs).spur = s.spur := by simp [State.enter]
/-- An entry in the spur return queue adds the frames at its tail. -/
@[simp] theorem State.enter_spurReturn (s : State) (hs : List Held) :
    (s.enter .spurReturn hs).merge.spurReturn = s.merge.spurReturn ++ hs := by simp [State.enter]
@[simp] theorem State.enter_spurReturn_transit (s : State) (hs : List Held) :
    (s.enter .spurReturn hs).merge.transit = s.merge.transit := by simp [State.enter]
@[simp] theorem State.enter_spurReturn_spur (s : State) (hs : List Held) :
    (s.enter .spurReturn hs).spur = s.spur := by simp [State.enter]
/-- An entry in the spur-out queue adds the frames at its tail. -/
@[simp] theorem State.enter_spurOut (s : State) (hs : List Held) :
    (s.enter .spurOut hs).spur.queue = s.spur.queue ++ hs := by simp [State.enter]
@[simp] theorem State.enter_spurOut_merge (s : State) (hs : List Held) :
    (s.enter .spurOut hs).merge = s.merge := by simp [State.enter]

@[simp] theorem State.enter_resetLow (s : State) (t : Target) (hs : List Held) : (s.enter t hs).resetLow = s.resetLow := by
  cases t <;> simp [State.enter]
@[simp] theorem State.enter_rate (s : State) (t : Target) (hs : List Held) : (s.enter t hs).rate = s.rate := by
  cases t <;> simp [State.enter]
@[simp] theorem State.enter_adr (s : State) (t : Target) (hs : List Held) : (s.enter t hs).adr = s.adr := by
  cases t <;> simp [State.enter]
@[simp] theorem State.enter_upRx (s : State) (t : Target) (hs : List Held) : (s.enter t hs).upRx = s.upRx := by
  cases t <;> simp [State.enter]
@[simp] theorem State.enter_spurRx (s : State) (t : Target) (hs : List Held) : (s.enter t hs).spurRx = s.spurRx := by
  cases t <;> simp [State.enter]
@[simp] theorem State.enter_gapCount (s : State) (t : Target) (hs : List Held) : (s.enter t hs).gapCount = s.gapCount := by
  cases t <;> simp [State.enter]
@[simp] theorem State.enter_map (s : State) (t : Target) (hs : List Held) : (s.enter t hs).map = s.map := by
  cases t <;> simp [State.enter]
@[simp] theorem State.enter_run (s : State) (t : Target) (hs : List Held) : (s.enter t hs).run = s.run := by
  cases t <;> simp [State.enter]
@[simp] theorem State.enter_line (s : State) (t : Target) (hs : List Held) : (s.enter t hs).line = s.line := by
  cases t <;> simp [State.enter]
@[simp] theorem State.enter_sup (s : State) (t : Target) (hs : List Held) : (s.enter t hs).sup = s.sup := by
  cases t <;> simp [State.enter]
@[simp] theorem State.enter_due (s : State) (t : Target) (hs : List Held) : (s.enter t hs).due = s.due := by
  cases t <;> simp [State.enter]
@[simp] theorem State.enter_choices (s : State) (t : Target) (hs : List Held) : (s.enter t hs).choices = s.choices := by
  cases t <;> simp [State.enter]
@[simp] theorem State.enter_pending (s : State) (t : Target) (hs : List Held) : (s.enter t hs).pending = s.pending := by
  cases t <;> simp [State.enter]
@[simp] theorem State.enter_merge_insertion (s : State) (t : Target) (hs : List Held) : (s.enter t hs).merge.insertion = s.merge.insertion := by
  cases t <;> simp [State.enter]
@[simp] theorem State.enter_merge_dout (s : State) (t : Target) (hs : List Held) : (s.enter t hs).merge.dout = s.merge.dout := by
  cases t <;> simp [State.enter]
@[simp] theorem State.enter_spur_state (s : State) (t : Target) (hs : List Held) : (s.enter t hs).spur.state = s.spur.state := by
  cases t <;> simp [State.enter]
@[simp] theorem State.enter_spur_watchTime (s : State) (t : Target) (hs : List Held) : (s.enter t hs).spur.watchTime = s.spur.watchTime := by
  cases t <;> simp [State.enter]
@[simp] theorem State.enter_spur_watchCount (s : State) (t : Target) (hs : List Held) : (s.enter t hs).spur.watchCount = s.spur.watchCount := by
  cases t <;> simp [State.enter]
@[simp] theorem State.enter_spur_restoreCount (s : State) (t : Target) (hs : List Held) : (s.enter t hs).spur.restoreCount = s.spur.restoreCount := by
  cases t <;> simp [State.enter]
@[simp] theorem State.enter_spur_sout (s : State) (t : Target) (hs : List Held) : (s.enter t hs).spur.sout = s.spur.sout := by
  cases t <;> simp [State.enter]
@[simp] theorem State.enter_mgmt_manager0 (s : State) (t : Target) (hs : List Held) : (s.enter t hs).mgmt.manager0 = s.mgmt.manager0 := by
  cases t <;> simp [State.enter]
@[simp] theorem State.enter_mgmt_manager1 (s : State) (t : Target) (hs : List Held) : (s.enter t hs).mgmt.manager1 = s.mgmt.manager1 := by
  cases t <;> simp [State.enter]
@[simp] theorem State.enter_mgmt_last (s : State) (t : Target) (hs : List Held) : (s.enter t hs).mgmt.last = s.mgmt.last := by
  cases t <;> simp [State.enter]
@[simp] theorem State.enter_mgmt_commit (s : State) (t : Target) (hs : List Held) : (s.enter t hs).mgmt.commit = s.mgmt.commit := by
  cases t <;> simp [State.enter]

/-! ## Counters and latches (R167, R168) -/

@[simp] theorem State.count_resetLow (s : State) (c : Counter) : (s.count c).resetLow = s.resetLow := by
  rfl
@[simp] theorem State.count_rate (s : State) (c : Counter) : (s.count c).rate = s.rate := by
  rfl
@[simp] theorem State.count_adr (s : State) (c : Counter) : (s.count c).adr = s.adr := by
  rfl
@[simp] theorem State.count_upRx (s : State) (c : Counter) : (s.count c).upRx = s.upRx := by
  rfl
@[simp] theorem State.count_spurRx (s : State) (c : Counter) : (s.count c).spurRx = s.spurRx := by
  rfl
@[simp] theorem State.count_gapCount (s : State) (c : Counter) : (s.count c).gapCount = s.gapCount := by
  rfl
@[simp] theorem State.count_map (s : State) (c : Counter) : (s.count c).map = s.map := by
  rfl
@[simp] theorem State.count_run (s : State) (c : Counter) : (s.count c).run = s.run := by
  rfl
@[simp] theorem State.count_merge (s : State) (c : Counter) : (s.count c).merge = s.merge := by
  rfl
@[simp] theorem State.count_spur (s : State) (c : Counter) : (s.count c).spur = s.spur := by
  rfl
@[simp] theorem State.count_line (s : State) (c : Counter) : (s.count c).line = s.line := by
  rfl
@[simp] theorem State.count_mgmt (s : State) (c : Counter) : (s.count c).mgmt = s.mgmt := by
  rfl
@[simp] theorem State.count_due (s : State) (c : Counter) : (s.count c).due = s.due := by
  rfl
@[simp] theorem State.count_choices (s : State) (c : Counter) : (s.count c).choices = s.choices := by
  rfl
@[simp] theorem State.count_pending (s : State) (c : Counter) : (s.count c).pending = s.pending := by
  rfl
@[simp] theorem State.count_sup_up (s : State) (c : Counter) : (s.count c).sup.up = s.sup.up := by
  rfl
@[simp] theorem State.count_sup_silenceCount (s : State) (c : Counter) : (s.count c).sup.silenceCount = s.sup.silenceCount := by
  rfl
@[simp] theorem State.count_sup_restoreCount (s : State) (c : Counter) : (s.count c).sup.restoreCount = s.sup.restoreCount := by
  rfl
@[simp] theorem State.count_sup_lastUp (s : State) (c : Counter) : (s.count c).sup.lastUp = s.sup.lastUp := by
  rfl
@[simp] theorem State.count_sup_lastSpur (s : State) (c : Counter) : (s.count c).sup.lastSpur = s.sup.lastSpur := by
  rfl
@[simp] theorem State.count_sup_latches (s : State) (c : Counter) : (s.count c).sup.latches = s.sup.latches := by
  rfl
@[simp] theorem State.count_sup_policy (s : State) (c : Counter) : (s.count c).sup.policy = s.sup.policy := by
  rfl
@[simp] theorem State.count_sup_gap (s : State) (c : Counter) : (s.count c).sup.gap = s.sup.gap := by
  rfl
@[simp] theorem State.count_sup_silenceTime (s : State) (c : Counter) : (s.count c).sup.silenceTime = s.sup.silenceTime := by
  rfl
@[simp] theorem State.rawLatch_resetLow (s : State) (l : Latch) : (s.rawLatch l).resetLow = s.resetLow := by
  rfl
@[simp] theorem State.rawLatch_rate (s : State) (l : Latch) : (s.rawLatch l).rate = s.rate := by
  rfl
@[simp] theorem State.rawLatch_adr (s : State) (l : Latch) : (s.rawLatch l).adr = s.adr := by
  rfl
@[simp] theorem State.rawLatch_upRx (s : State) (l : Latch) : (s.rawLatch l).upRx = s.upRx := by
  rfl
@[simp] theorem State.rawLatch_spurRx (s : State) (l : Latch) : (s.rawLatch l).spurRx = s.spurRx := by
  rfl
@[simp] theorem State.rawLatch_gapCount (s : State) (l : Latch) : (s.rawLatch l).gapCount = s.gapCount := by
  rfl
@[simp] theorem State.rawLatch_map (s : State) (l : Latch) : (s.rawLatch l).map = s.map := by
  rfl
@[simp] theorem State.rawLatch_run (s : State) (l : Latch) : (s.rawLatch l).run = s.run := by
  rfl
@[simp] theorem State.rawLatch_merge (s : State) (l : Latch) : (s.rawLatch l).merge = s.merge := by
  rfl
@[simp] theorem State.rawLatch_spur (s : State) (l : Latch) : (s.rawLatch l).spur = s.spur := by
  rfl
@[simp] theorem State.rawLatch_line (s : State) (l : Latch) : (s.rawLatch l).line = s.line := by
  rfl
@[simp] theorem State.rawLatch_mgmt (s : State) (l : Latch) : (s.rawLatch l).mgmt = s.mgmt := by
  rfl
@[simp] theorem State.rawLatch_due (s : State) (l : Latch) : (s.rawLatch l).due = s.due := by
  rfl
@[simp] theorem State.rawLatch_choices (s : State) (l : Latch) : (s.rawLatch l).choices = s.choices := by
  rfl
@[simp] theorem State.rawLatch_pending (s : State) (l : Latch) : (s.rawLatch l).pending = s.pending := by
  rfl
@[simp] theorem State.rawLatch_sup_up (s : State) (l : Latch) : (s.rawLatch l).sup.up = s.sup.up := by
  rfl
@[simp] theorem State.rawLatch_sup_silenceCount (s : State) (l : Latch) : (s.rawLatch l).sup.silenceCount = s.sup.silenceCount := by
  rfl
@[simp] theorem State.rawLatch_sup_restoreCount (s : State) (l : Latch) : (s.rawLatch l).sup.restoreCount = s.sup.restoreCount := by
  rfl
@[simp] theorem State.rawLatch_sup_lastUp (s : State) (l : Latch) : (s.rawLatch l).sup.lastUp = s.sup.lastUp := by
  rfl
@[simp] theorem State.rawLatch_sup_lastSpur (s : State) (l : Latch) : (s.rawLatch l).sup.lastSpur = s.sup.lastSpur := by
  rfl
@[simp] theorem State.rawLatch_sup_counters (s : State) (l : Latch) : (s.rawLatch l).sup.counters = s.sup.counters := by
  rfl
@[simp] theorem State.rawLatch_sup_policy (s : State) (l : Latch) : (s.rawLatch l).sup.policy = s.sup.policy := by
  rfl
@[simp] theorem State.rawLatch_sup_gap (s : State) (l : Latch) : (s.rawLatch l).sup.gap = s.sup.gap := by
  rfl
@[simp] theorem State.rawLatch_sup_silenceTime (s : State) (l : Latch) : (s.rawLatch l).sup.silenceTime = s.sup.silenceTime := by
  rfl

theorem Counter.place_injective {c d : Counter} (h : c.place = d.place) : c = d := by
  revert h; cases c <;> cases d <;> decide

/-- R168: a cause raises its own counter, up to 255, and no other. -/
theorem State.countOf_count (s : State) (c d : Counter) :
    (s.count c).sup.countOf d = if d = c then raiseCount (s.sup.countOf c) else s.sup.countOf d := by
  by_cases h : d = c
  · subst h; simp [State.count, State.setSup, Supervision.countOf]
  · have hp : c.place.val ≠ d.place.val := fun e => h (Counter.place_injective (Fin.ext e)).symm
    simp [State.count, State.setSup, Supervision.countOf, h, Vector.getElem_set_ne, hp]

/-- R167: a cause sets its own latch and no other. -/
theorem State.isSet_rawLatch (s : State) (l m : Latch) :
    (s.rawLatch l).sup.isSet m = (s.sup.isSet m || decide (m = l)) := by
  have h : (1#8 <<< l.bit.val).getLsbD m.bit.val = decide (m = l) := by revert l m; intro l m; cases l <;> cases m <;> decide
  rw [Supervision.isSet, State.rawLatch, State.setSup, BitVec.getLsbD_or, h]; rfl

end Sys2Proof.Machine
end

