-- ==== Sys2Proof/Laws/Lines.lean ====
section
/-! SUPPORT. What the moves of lines can do: they change the line unit, and through an EVENT build the insertion queue and
the grant, and nothing else; in report mode POLL they change the line unit alone. -/

namespace Sys2Proof.Machine

/-! ## The effect of the line unit's causes -/

theorem EventEffect.refl (s : State) : EventEffect s s := rfl

theorem EventEffect.trans {s t u : State} (h : EventEffect s t) (k : EventEffect t u) : EventEffect s u := by
  unfold EventEffect at *; rw [k, h]

theorem eventEffect_setLines (s : State) (b : LineBlock) : EventEffect s (s.setLines b) := rfl

theorem eventEffect_consume (s : State) : EventEffect s s.consume := rfl

theorem eventEffect_grantDown (s : State) : EventEffect s s.grantDown := by
  unfold EventEffect State.grantDown; (repeat' split) <;> rfl

theorem eventEffect_insert (s : State) (h : Held) : EventEffect s (s.insert h) :=
  EventEffect.trans (t := s.setMerge { s.merge with insertion := s.merge.insertion ++ [h] }) rfl
    (eventEffect_grantDown _)

theorem eventEffect_examineEvent (s : State) : EventEffect s s.examineEvent := by
  unfold State.examineEvent
  split
  · exact (eventEffect_setLines _ _).trans (eventEffect_insert _ _)
  · exact .refl s

theorem eventEffect_moveGroup (move : LineBlock → Fin 13 → LineBlock) (ls : List (Fin 13)) (s : State) :
    EventEffect s (s.moveGroup move ls) := eventEffect_setLines _ _

/-- R132, cause 2: the conditions are examined once the lines of an EVENT that is gone have moved, before any group after it. -/
theorem State.moveEager_eventGone (move : LineBlock → Fin 13 → LineBlock) {g : LineGroup} (h : g.eventGone = true)
    (rest : List LineGroup) (s : State) :
    s.moveEager move (g :: rest) = ((s.moveGroup move g.lines).examineEvent).moveEager move rest := by
  simp [State.moveEager, LineGroup.isCause, h]

theorem eventEffect_moveEager (move : LineBlock → Fin 13 → LineBlock) (groups : List LineGroup) (s : State) :
    EventEffect s (s.moveEager move groups) := by
  induction groups generalizing s with
  | nil => exact .refl s
  | cons ls rest ih =>
    simp only [State.moveEager]
    split
    · exact ((eventEffect_moveGroup _ _ _).trans (eventEffect_examineEvent _)).trans (ih _)
    · exact (eventEffect_moveGroup _ _ _).trans (ih _)

theorem eventEffect_moveLines (move : LineBlock → Fin 13 → LineBlock) (groups : List LineGroup) (s : State) :
    EventEffect s (s.moveLines move groups) := by
  unfold State.moveLines
  split
  · exact (eventEffect_consume s).trans (eventEffect_moveEager _ _ _)
  · exact eventEffect_moveEager _ _ _

theorem eventEffect_handEdges (s : State) (ls : List (Fin 13)) : EventEffect s (s.handEdges ls) := by
  unfold State.handEdges
  split
  · exact (eventEffect_consume s).trans (eventEffect_moveLines _ _ _)
  · exact eventEffect_moveLines _ _ _

theorem eventEffect_sampleLines (s : State) (pins : BitVec 12) : EventEffect s (s.sampleLines pins) :=
  (eventEffect_setLines _ _).trans (eventEffect_handEdges _ _)

theorem eventEffect_pseudoEdge (s : State) : EventEffect s s.pseudoEdge := eventEffect_moveLines _ _ _

theorem eventEffect_tellEdge (s : State) (before : BitVec 8) : EventEffect s (s.tellEdge before) := by
  unfold State.tellEdge
  split
  · exact eventEffect_pseudoEdge s
  · exact .refl s

/-- R167: a latch set changes the latches, and what the edge of the pseudo-line changes. -/
theorem eventEffect_latch (s : State) (l : Latch) : EventEffect (s.rawLatch l) (s.latch l) := eventEffect_tellEdge _ _

/-- What an EVENT effect leaves: every block but the line unit, the insertion queue and the grant. -/
theorem EventEffect.frame {s t : State} (h : EventEffect s t) :
    t.resetLow = s.resetLow ∧ t.rate = s.rate ∧ t.adr = s.adr ∧ t.upRx = s.upRx ∧ t.spurRx = s.spurRx ∧
    t.gapCount = s.gapCount ∧ t.map = s.map ∧ t.run = s.run ∧ t.spur = s.spur ∧ t.sup = s.sup ∧ t.due = s.due ∧
    t.pending = s.pending ∧ t.merge.transit = s.merge.transit ∧ t.merge.spurReturn = s.merge.spurReturn ∧
    t.merge.dout = s.merge.dout ∧ t.mgmt.manager0 = s.mgmt.manager0 ∧ t.mgmt.manager1 = s.mgmt.manager1 ∧
    t.mgmt.last = s.mgmt.last ∧ t.mgmt.commit = s.mgmt.commit := by
  unfold EventEffect at h
  rw [h]
  exact ⟨rfl, rfl, rfl, rfl, rfl, rfl, rfl, rfl, rfl, rfl, rfl, rfl, rfl, rfl, rfl, rfl, rfl, rfl, rfl⟩

/-! ## Report mode POLL -/

theorem State.examineEvent_of_poll {s : State} (h : s.line.reportMode = .poll) : s.examineEvent = s := by
  simp [State.examineEvent, State.eventDue, h]

/-- A move that keeps the report mode, as every move of R122 to R126 does. -/
def KeepsMode (move : LineBlock → Fin 13 → LineBlock) : Prop := ∀ b l, (move b l).reportMode = b.reportMode

theorem keepsMode_edge : KeepsMode LineBlock.edge := fun _ _ => rfl

theorem keepsMode_departure : KeepsMode LineBlock.departure := by
  intro b l; unfold LineBlock.departure; split <;> rfl

theorem keepsMode_discard : KeepsMode LineBlock.discard := by
  intro b l; unfold LineBlock.discard; split <;> rfl

theorem KeepsMode.foldl {move : LineBlock → Fin 13 → LineBlock} (h : KeepsMode move) (ls : List (Fin 13))
    (b : LineBlock) : (ls.foldl move b).reportMode = b.reportMode := by
  induction ls generalizing b with
  | nil => rfl
  | cons l ls ih => rw [List.foldl_cons, ih, h]

/-- In report mode POLL the moves of a step move the lines, in order, and nothing else. -/
theorem State.moveEager_of_poll {move : LineBlock → Fin 13 → LineBlock} (hm : KeepsMode move)
    (groups : List LineGroup) (s : State) (h : s.line.reportMode = .poll) :
    s.moveEager move groups = s.setLines ((groups.flatMap LineGroup.lines).foldl move s.line) := by
  induction groups generalizing s with
  | nil => rfl
  | cons g rest ih =>
    have h' : (s.moveGroup move g.lines).line.reportMode = .poll := by
      rw [State.moveGroup, State.setLines_line, hm.foldl, h]
    simp only [State.moveEager, State.examineEvent_of_poll h', ite_self, ih _ h', List.flatMap_cons, List.foldl_append]
    rfl

/-- In report mode POLL the moves of a step move the lines, in order, and nothing else. -/
theorem State.moveLines_of_poll {move : LineBlock → Fin 13 → LineBlock} (hm : KeepsMode move)
    (groups : List LineGroup) (s : State) (h : s.line.reportMode = .poll) :
    s.moveLines move groups = s.setLines ((groups.flatMap LineGroup.lines).foldl move s.line) := by
  rw [State.moveLines, if_neg (by simp [h]), State.moveEager_of_poll hm _ _ h]

/-- R117, R122, in report mode POLL: the edges of a sample move the lines, in order, and nothing else. -/
theorem State.handEdges_of_poll (s : State) (ls : List (Fin 13)) (h : s.line.reportMode = .poll) :
    s.handEdges ls = s.setLines (ls.foldl LineBlock.edge s.line) := by
  rw [State.handEdges, if_neg (by simp [h]), State.moveLines_of_poll keepsMode_edge _ _ h]
  rw [List.flatMap_map]
  exact congrArg (fun ms => s.setLines (List.foldl LineBlock.edge s.line ms)) (List.flatMap_singleton' ls)

/-! ## Free orders -/

/-- Whatever the free value, the lines of a sample move in an order of themselves: none twice, and none left out. -/
theorem anyOrder_perm {α : Type} (n : Nat) (ls : List α) : (anyOrder n ls).Perm ls := by
  induction ls generalizing n with
  | nil => simp [anyOrder]
  | cons x rest ih =>
    refine List.perm_middle.trans (List.Perm.cons x ?_)
    rw [List.take_append_drop]
    exact ih _

/-- No order is left out: each is the one that some free value stands for. -/
theorem exists_anyOrder_eq {α : Type} {ls order : List α} (h : order.Perm ls) : ∃ n, anyOrder n ls = order := by
  induction ls generalizing order with
  | nil => exact ⟨0, by simp [anyOrder, h.eq_nil]⟩
  | cons x rest ih =>
    obtain ⟨a, b, rfl⟩ := List.append_of_mem (h.mem_iff.mpr (List.mem_cons_self ..))
    have hp : (a ++ b).Perm rest := (List.perm_middle.symm.trans h).cons_inv
    obtain ⟨m, hm⟩ := ih hp
    have hl : a.length < rest.length + 1 := by have := hp.length_eq; simp at this; omega
    refine ⟨a.length + (rest.length + 1) * m, ?_⟩
    simp [anyOrder, Nat.add_mul_div_left, Nat.add_mul_mod_self_left, Nat.div_eq_of_lt hl, Nat.mod_eq_of_lt hl, hm]

/-- `zs` holds what `xs` and `ys` hold, each in its own order. -/
inductive Interleaved {α : Type} : List α → List α → List α → Prop
  | nil : Interleaved [] [] []
  | left {x : α} {xs ys zs : List α} : Interleaved xs ys zs → Interleaved (x :: xs) ys (x :: zs)
  | right {y : α} {xs ys zs : List α} : Interleaved xs ys zs → Interleaved xs (y :: ys) (y :: zs)

theorem Interleaved.of_right {α : Type} (ys : List α) : Interleaved [] ys ys := by
  induction ys with
  | nil => exact .nil
  | cons _ _ ih => exact .right ih

theorem Interleaved.append_right {α : Type} {xs ys zs : List α} (h : Interleaved xs ys zs) (pre : List α) :
    Interleaved xs (pre ++ ys) (pre ++ zs) := by
  induction pre with
  | nil => exact h
  | cons _ _ ih => exact .right ih

/-- R101, R111: whatever the free value, both units' discards are notified, each unit's in its own order. -/
theorem interleaved_interleave {α : Type} (n : Nat) (xs ys : List α) : Interleaved xs ys (interleave n xs ys) := by
  induction xs generalizing n ys with
  | nil => exact .of_right ys
  | cons x xs ih =>
    have h := (Interleaved.left (x := x) (ih (n / (ys.length + 1)) (ys.drop (n % (ys.length + 1))))).append_right
      (ys.take (n % (ys.length + 1)))
    rwa [List.take_append_drop] at h

/-- No interleaving is left out: each is the one that some free value stands for. -/
theorem exists_interleave_eq {α : Type} {xs ys zs : List α} (h : Interleaved xs ys zs) : ∃ n, interleave n xs ys = zs := by
  induction h with
  | nil => exact ⟨0, rfl⟩
  | @left x xs ys zs _ ih =>
    obtain ⟨n, rfl⟩ := ih
    exact ⟨(ys.length + 1) * n, by simp [interleave]⟩
  | @right y xs ys zs _ ih =>
    obtain ⟨n, rfl⟩ := ih
    cases xs with
    | nil => exact ⟨0, rfl⟩
    | cons x xs =>
      have hk : n % (ys.length + 1) + 1 < ys.length + 1 + 1 := Nat.succ_lt_succ (Nat.mod_lt _ (Nat.succ_pos _))
      refine ⟨n % (ys.length + 1) + 1 + (ys.length + 1 + 1) * (n / (ys.length + 1)), ?_⟩
      simp [interleave, Nat.add_mul_div_left, Nat.add_mul_mod_self_left, Nat.div_eq_of_lt hk, Nat.mod_eq_of_lt hk]

/-- R128, in report mode POLL: the first latch of an addressed part is an edge of the pseudo-line. -/
theorem State.latch_of_poll {s : State} (l : Latch) (h : s.line.reportMode = .poll) :
    s.latch l =
      if s.addressed = true ∧ s.sup.latches = 0#8 then
        (s.rawLatch l).setLines (s.line.edge pseudoLine) else s.rawLatch l := by
  have hne : s.sup.latches = 0#8 → (s.rawLatch l).sup.latches ≠ 0#8 := by
    intro h0; simp only [State.rawLatch, State.setSup, h0]; cases l <;> decide
  have hp := State.moveLines_of_poll keepsMode_edge [.ofEdge pseudoLine] (s.rawLatch l) h
  have ha : (s.rawLatch l).addressed = s.addressed := rfl
  unfold State.latch State.tellEdge
  by_cases hc : s.addressed = true ∧ s.sup.latches = 0#8
  · rw [if_pos hc, if_pos (by simp [ha, hc.1, hc.2, hne hc.2])]
    exact hp
  · rw [if_neg hc, if_neg]
    simp only [ha, Bool.and_eq_true, decide_eq_true_eq]
    exact fun hh => hc hh.1

/-! ## The catch records -/

@[simp] theorem LineBlock.catchOf_setCatch_same (b : LineBlock) (l : Fin 13) (k : Catch) :
    (b.setCatch l k).catchOf l = k := by
  simp [LineBlock.catchOf, LineBlock.setCatch]

theorem LineBlock.catchOf_setCatch_other (b : LineBlock) {l m : Fin 13} (k : Catch) (h : m ≠ l) :
    (b.setCatch l k).catchOf m = b.catchOf m := by
  have hv : l.val ≠ m.val := fun e => h (Fin.ext e).symm
  simp [LineBlock.catchOf, LineBlock.setCatch, Vector.getElem_set_ne, hv]

@[simp] theorem LineBlock.lines_setCatch (b : LineBlock) (l : Fin 13) (k : Catch) : (b.setCatch l k).lines = b.lines := rfl
@[simp] theorem LineBlock.catchOf_clearRetire (b : LineBlock) (l m : Fin 13) :
    (b.clearRetire l).catchOf m = b.catchOf m := rfl

/-- R122: an edge moves its own line's catch record and nothing else. -/
theorem LineBlock.catchOf_edge (b : LineBlock) (l m : Fin 13) :
    (b.edge l).catchOf m = if m = l then (b.catchOf l).onEdge (b.retire l) else b.catchOf m := by
  by_cases h : m = l
  · subst h; simp [LineBlock.edge]
  · rw [if_neg h, LineBlock.edge, LineBlock.catchOf_setCatch_other _ _ h]

/-- R123: a record moves its own line's catch record and nothing else. -/
theorem LineBlock.catchOf_record (b : LineBlock) (ls : List (Fin 13)) (m : Fin 13) :
    (b.record ls).catchOf m = if m ∈ ls then (b.catchOf m).onRecord else b.catchOf m := by
  have hid : ∀ k : Catch, k.onRecord.onRecord = k.onRecord := fun _ => rfl
  unfold LineBlock.record
  induction ls generalizing b with
  | nil => simp
  | cons l ls ih =>
    rw [List.foldl_cons, ih]
    by_cases h : m = l
    · subst h; by_cases hm : m ∈ ls <;> simp [hm, hid]
    · simp [h, LineBlock.catchOf_setCatch_other _ _ h]

end Sys2Proof.Machine
end

