-- ==== Sys2Proof/Laws/Delivery.lean ====
section
/-! SUPPORT. How an own frame reaches its block: a quiet part that hears a requester hands the requester's frame, with its own
fields, to the line unit or the management unit. -/

namespace Sys2Proof.Machine

/-! ## Quiet -/

@[simp] theorem State.settle_of_quiet {s : State} (h : s.due = []) : s.settle = s := by
  have : s.setDue [] = s := by unfold State.setDue; rw [← h]
  rw [State.settle, h, List.foldl_nil, this]

/-- A command given to a quiet part is carried out at once. -/
theorem State.settled_of_quiet {s : State} (h : s.Quiet) (f : State → State) : s.settled f = .next (f s) := by
  simp [State.settled, State.answer, h.1, State.settle_of_quiet h.2]

/-- An event that is due is taken by its command. -/
theorem State.takeDue_of_due {s : State} {d : Due} (h : d ∈ s.due) :
    s.takeDue d = (s.setDue (s.due.erase d)).perform d := by
  simp [State.takeDue, h]

/-- An event that is not due has not come about, and its command does nothing. -/
theorem State.takeDue_of_not_due {s : State} {d : Due} (h : d ∉ s.due) : s.takeDue d = s := by
  simp [State.takeDue, h]

/-! ## The own address -/

theorem State.own_of_addressed {s : State} (h : s.adr ≠ Config.broadcast) : s.own = some s.adr := by
  simp [State.own, State.addressed, h]

/-! ## Delivery -/

@[simp] theorem State.heard_adr (s : State) (p : Port) : (s.heard p).adr = s.adr := by cases p <;> rfl
@[simp] theorem State.heard_map (s : State) (p : Port) : (s.heard p).map = s.map := by cases p <;> rfl
@[simp] theorem State.heard_mgmt (s : State) (p : Port) : (s.heard p).mgmt = s.mgmt := by cases p <;> rfl
@[simp] theorem State.heard_line (s : State) (p : Port) : (s.heard p).line = s.line := by cases p <;> rfl
@[simp] theorem State.heard_merge (s : State) (p : Port) : (s.heard p).merge = s.merge := by cases p <;> rfl
@[simp] theorem State.heard_due (s : State) (p : Port) : (s.heard p).due = s.due := by cases p <;> rfl
@[simp] theorem State.heard_resetLow (s : State) (p : Port) : (s.heard p).resetLow = s.resetLow := by cases p <;> rfl
@[simp] theorem State.heard_rate (s : State) (p : Port) : (s.heard p).rate = s.rate := by cases p <;> rfl
@[simp] theorem State.heard_pending (s : State) (p : Port) : (s.heard p).pending = s.pending := by cases p <;> rfl
@[simp] theorem State.heard_choices (s : State) (p : Port) : (s.heard p).choices = s.choices := by cases p <;> rfl
@[simp] theorem State.heard_spur_state (s : State) (p : Port) : (s.heard p).spur.state = s.spur.state := by
  cases p <;> rfl
@[simp] theorem State.heard_sup_latches (s : State) (p : Port) : (s.heard p).sup.latches = s.sup.latches := by
  cases p <;> rfl
@[simp] theorem State.heard_sup_counters (s : State) (p : Port) : (s.heard p).sup.counters = s.sup.counters := by
  cases p <;> rfl

/-- The own frame of a requester that a part delivers is handed to `ownFrame` with its own fields (R20 to R24). A swap that
waits afterwards is due at once, since the frame completed at the upstream receiver (R39). -/
theorem State.arriveOwn_of_delivers {s : State} {q : Requester} (h : s.Delivers q) (kind : Digit) (payload : List Digit)
    (hp : payload.length ≤ 15) :
    s.arriveOwn q kind payload =
      let t := (s.heard q.port).ownFrame
        { kind := kind, dst := s.adr, src := q.src, seq := q.seq, payload := payload : Frame }
      if q.port = .upstream ∧ t.mgmt.commit.isSome = true then t.addDue .swap else t := by
  obtain ⟨-, ⟨hrx, hcommit, hup⟩, hadr, hsrc⟩ := h
  obtain ⟨port, src, seq⟩ := q
  have hc := classify_digits { kind := kind, dst := s.adr, src := src, seq := seq, payload := payload : Frame } hp
  have hown : s.own = some s.adr := State.own_of_addressed hadr
  have hne : ¬some s.adr = some src := fun e => hsrc (Option.some.inj e).symm
  cases port with
  | upstream =>
    have hl : s.sup.up = .live := hup
    have hr : s.upRx.state ≠ .assemble := hrx
    have hrep : s.report .upstream .start = s.setSup { s.sup with silenceCount := 0 } := by
      simp [State.report, hl]
    have hst : s.startArrives .upstream = s.setSup { s.sup with silenceCount := 0 } := by
      simp [State.startArrives, hrep, hr]
    have hd : s.deaf .upstream = false := by simp [State.deaf]
    simp only [State.arriveOwn, State.arrive, hd, Bool.false_eq_true, if_false, hst, State.complete, State.take, hc,
      State.takeIntact, State.restoreByFrame, afterEnding, true_and]
    have hlive : (((s.setSup { s.sup with silenceCount := 0 }).setRx .upstream .reset).setGapCount 0).becomeLive =
        ((s.setSup { s.sup with silenceCount := 0 }).setRx .upstream .reset).setGapCount 0 := by
      simp [State.becomeLive, hl]
    have hown' : (((s.setSup { s.sup with silenceCount := 0 }).setRx .upstream .reset).setGapCount 0).own =
        some s.adr := hown
    rw [hlive, hown', if_neg hne, if_pos rfl]
    rfl
  | spur =>
    have hl : s.spur.state = .closed := hup
    have hr : s.spurRx.state ≠ .assemble := hrx
    have hrep : s.report .spur .start = s.setSpur { s.spur with watchCount := 0 } := by
      simp [State.report, hl]
    have hst : s.startArrives .spur = s.setSpur { s.spur with watchCount := 0 } := by
      simp [State.startArrives, hrep, hr]
    have hd : s.deaf .spur = false := by simp [State.deaf, hl]
    simp only [State.arriveOwn, State.arrive, hd, Bool.false_eq_true, if_false, hst, State.complete, State.take, hc,
      State.takeIntact, State.restoreByFrame, afterEnding]
    have hcl : ((s.setSpur { s.spur with watchCount := 0 }).setRx .spur .reset).spurCloses =
        (s.setSpur { s.spur with watchCount := 0 }).setRx .spur .reset := by
      simp [State.spurCloses, hl]
    have hown' : ((s.setSpur { s.spur with watchCount := 0 }).setRx .spur .reset).own = some s.adr := hown
    rw [hcl, hown', if_neg hne, if_pos rfl]
    simp only [reduceCtorEq, false_and, if_false]
    rfl

/-- A MGMT frame of a requester that a part delivers is handed to the management unit (R24). -/
theorem State.manageFrom_of_delivers {s : State} {q : Requester} (h : s.Delivers q) (code : Digit) (args : List Digit)
    (hp : args.length ≤ 14) :
    s.manageFrom q code args =
      let t := (s.heard q.port).manage
        { kind := 0x8#4, dst := s.adr, src := q.src, seq := q.seq, payload := code :: args : Frame }
      if q.port = .upstream ∧ t.mgmt.commit.isSome = true then t.addDue .swap else t := by
  exact State.arriveOwn_of_delivers h 0x8#4 (code :: args) (by rw [List.length_cons]; omega)

/-- Steps 1 to 3 of R138 let the frame of a requester pass that the part manages: steps 4 to 7 decide. -/
theorem State.manage_of_manages {s : State} {q : Requester} (h : s.Manages q) (code : Digit) (args : List Digit) :
    (s.heard q.port).manage { kind := 0x8#4, dst := s.adr, src := q.src, seq := q.seq, payload := code :: args } =
      match parseCommand s.adr code args with
      | .length =>
        (s.heard q.port).answerWith ⟨0x8#4, s.adr, q.src, q.seq, code :: args⟩ statusLength []
      | .invalid =>
        (s.heard q.port).answerWith ⟨0x8#4, s.adr, q.src, q.seq, code :: args⟩ statusInvalid []
      | .command c => (s.heard q.port).execute ⟨0x8#4, s.adr, q.src, q.seq, code :: args⟩ c := by
  obtain ⟨-, hfree, hacc, hlast⟩ := h
  have hrep : s.mgmt.replays ⟨0x8#4, s.adr, q.src, q.seq, code :: args⟩ = none := by
    unfold Management.replays
    split
    · rename_i r hr
      rw [if_neg (by simpa using hlast r hr)]
    · rfl
  cases hp : parseCommand s.adr code args <;>
    simp only [State.manage, State.heard_mgmt, hfree, ne_eq, not_true_eq_false, if_false, hrep, hacc, hp,
      Bool.not_true, Bool.false_eq_true, State.heard_adr, Frame.command, List.headD_cons, List.drop_succ_cons,
      List.drop_zero]

/-- R138: a MGMT frame of a requester that the part manages is decided by its length, its arguments, or its command. -/
theorem State.manageFrom_of_manages {s : State} {q : Requester} (h : s.Manages q) (code : Digit) (args : List Digit)
    (hp : args.length ≤ 14) :
    s.manageFrom q code args =
      let f : Frame := ⟨0x8#4, s.adr, q.src, q.seq, code :: args⟩
      let t := match parseCommand s.adr code args with
        | .length => (s.heard q.port).answerWith f statusLength []
        | .invalid => (s.heard q.port).answerWith f statusInvalid []
        | .command c => (s.heard q.port).execute f c
      if q.port = .upstream ∧ t.mgmt.commit.isSome = true then t.addDue .swap else t := by
  rw [State.manageFrom_of_delivers h.1 code args hp]
  simp only [State.manage_of_manages h]

/-! ## Answers -/

/-- R144: an answer replaces the last-command record and fills the reply slot, which a READY transmitter is granted. -/
theorem State.answerWith_eq (s : State) (f : Frame) (status : Digit) (data : List Digit) :
    s.answerWith f status data = s.answered f.src f.seq f.command status data := by
  unfold State.answerWith State.recordReply State.reply State.answered State.replied
  rw [State.fillReply_eq]
  rfl

/-- R140, R141: a reply that leaves the last-command record. -/
theorem State.reply_eq (s : State) (f : Frame) (payload : List Digit) :
    s.reply f payload = s.replied f.src f.seq payload := by
  unfold State.reply State.replied
  rw [State.fillReply_eq]
  rfl

@[simp] theorem State.replied_commit (s : State) (src : Addr) (seq : Digit) (p : List Digit) :
    (s.replied src seq p).mgmt.commit = s.mgmt.commit := by
  unfold State.replied; split <;> rfl

@[simp] theorem State.answered_commit (s : State) (src : Addr) (seq c st : Digit) (d : List Digit) :
    (s.answered src seq c st d).mgmt.commit = s.mgmt.commit := by
  unfold State.answered; rw [State.replied_commit]

/-- A managed command that is answered and leaves no commit pending ends with its answer. -/
theorem State.manageFrom_answered {s u : State} {q : Requester} (h : s.Manages q) {code status : Digit}
    {args data : List Digit} {c : Command} (hp : args.length ≤ 14) (hc : parseCommand s.adr code args = .command c)
    (he : (s.heard q.port).execute ⟨0x8#4, s.adr, q.src, q.seq, code :: args⟩ c =
      u.answerWith ⟨0x8#4, s.adr, q.src, q.seq, code :: args⟩ status data)
    (hu : u.mgmt.commit = none) :
    s.manageFrom q code args = u.answered q.src q.seq code status data := by
  rw [State.manageFrom_of_manages h code args hp]
  simp only [hc, he, State.answerWith_eq, State.answered_commit, hu, Option.isSome_none, Bool.false_eq_true,
    and_false, if_false]
  rfl

end Sys2Proof.Machine
end

