-- ==== Sys2Proof/Laws/Grants.lean ====
section
/-! SUPPORT. What a check for a grant, an entry in a queue and an edge do, said once in the statements' terms. -/

namespace Sys2Proof.Machine

/-! ## Grants (R96 to R99, R104) -/

theorem framesOf_cycleSource (s : State) (i : Fin 4) : s.framesOf (cycleSource i) = queueAt s i := by
  match i with
  | 0 => rfl
  | 1 => rfl
  | 2 => rfl
  | 3 => rfl

theorem cycleSource_eq (i : Fin 4) : cycleSource i = storeAt i := by
  match i with
  | 0 => rfl
  | 1 => rfl
  | 2 => rfl
  | 3 => rfl

/-- R98: a position is the pointer's or one of the three after it, and those before it come earlier in the cycle. -/
theorem cycle_positions : ∀ i p : Fin 4,
    i = p ∨ (i = p + 1 ∧ (p - p).val < (i - p).val) ∨
    (i = p + 2 ∧ (p - p).val < (i - p).val ∧ (p + 1 - p).val < (i - p).val) ∨
    (i = p + 3 ∧ (p - p).val < (i - p).val ∧ (p + 1 - p).val < (i - p).val ∧ (p + 2 - p).val < (i - p).val) := by
  decide

/-- R98: the winner is the first position from the pointer on whose queue holds a frame. -/
theorem State.cycleWinner_eq_some {s : State} {i : Fin 4} (hi : queueAt s i ≠ [])
    (hj : ∀ j : Fin 4, (j - s.merge.pointer).val < (i - s.merge.pointer).val → queueAt s j = []) :
    s.cycleWinner = some i := by
  have hb : (queueAt s i).isEmpty = false := by simpa [List.isEmpty_iff] using hi
  unfold State.cycleWinner
  simp only [framesOf_cycleSource]
  rcases cycle_positions i s.merge.pointer with h | ⟨h, h0⟩ | ⟨h, h0, h1⟩ | ⟨h, h0, h1, h2⟩
  · rw [← h]; simp [hb]
  · rw [← h]; simp [hb, hj _ h0]
  · rw [← h]; simp [hb, hj _ h0, hj _ h1]
  · rw [← h]; simp [hb, hj _ h0, hj _ h1, hj _ h2]

/-- R98: where no queue holds a frame, none wins. -/
theorem State.cycleWinner_eq_none {s : State} (h : ∀ i : Fin 4, queueAt s i = []) : s.cycleWinner = none := by
  unfold State.cycleWinner
  simp [framesOf_cycleSource, h]

/-- R96 to R99: what the merge unit's check for a grant does. -/
theorem grantChecked_grantDown (s : State) : GrantChecked s s.grantDown := by
  refine ⟨fun h => State.grantDown_of_not_ready h, fun h => ⟨fun ds hd => State.grantDown_reply h hd, fun hd => ⟨fun i hi hj => ?_, fun hq => ?_⟩⟩⟩
  · rw [State.grantDown_queue h hd (State.cycleWinner_eq_some hi hj), cycleSource_eq]; rfl
  · exact State.grantDown_none hd (State.cycleWinner_eq_none hq)

/-- R104: what the spur unit's check for a grant does. -/
theorem spurGrantChecked_grantSpur (s : State) : SpurGrantChecked s s.grantSpur := by
  unfold SpurGrantChecked State.grantSpur
  by_cases h : s.spur.tx = .ready ∧ s.spur.state ≠ .disabled ∧ s.spur.queue ≠ []
  · rw [if_pos h, if_pos (by simpa [and_assoc, List.isEmpty_iff] using h)]; rfl
  · rw [if_neg h, if_neg (by simpa [and_assoc, List.isEmpty_iff] using h)]

/-! ## Entries (R28, R29, R94) -/

/-- R28, R29: what the entry of claimed frames does. -/
theorem placed_enter (s : State) (q : Target) (hs : List Held) : Placed s (s.enter q hs) q hs := by
  cases q
  · exact grantChecked_grantDown _
  · exact spurGrantChecked_grantSpur _
  · exact grantChecked_grantDown _

/-- R94: what an insertion does. -/
theorem inserted_insert (s : State) (h : Held) : Inserted s (s.insert h) h := grantChecked_grantDown _

end Sys2Proof.Machine
end

