-- ==== Sys2Proof/Laws/Store.lean ====
section
/-! SUPPORT. Laws of addressed stores: what reads after a write, and that every operation keeps the canonical form. -/

namespace Sys2Proof.Machine

variable {α : Type} [DecidableEq α]

/-! ## Stores -/

/-- A canonical form from a higher address is one from a lower address. -/
theorem Store.wfFrom_mono {blank : α} {bound lo lo' : Nat} {l : List (Nat × α)} (h : lo' ≤ lo)
    (hw : Store.wfFrom blank bound lo l = true) : Store.wfFrom blank bound lo' l = true := by
  cases l with
  | nil => rfl
  | cons p rest =>
    obtain ⟨k, v⟩ := p
    simp only [Store.wfFrom, Bool.and_eq_true, decide_eq_true_eq] at hw ⊢
    exact ⟨⟨⟨by omega, hw.1.1.2⟩, hw.1.2⟩, hw.2⟩

/-- An address below every listed one reads as blank. -/
theorem Store.read_below {blank : α} {bound lo a : Nat} {l : List (Nat × α)} (h : a < lo)
    (hw : Store.wfFrom blank bound lo l = true) : Store.read blank l a = blank := by
  induction l generalizing lo with
  | nil => rfl
  | cons p rest ih =>
    obtain ⟨k, v⟩ := p
    simp only [Store.wfFrom, Bool.and_eq_true, decide_eq_true_eq] at hw
    have hk : a ≠ k := by omega
    simp only [Store.read, hk, if_false]
    exact ih (by omega) hw.2

/-- A written address reads as what was written; every other address reads as before. -/
theorem Store.read_write {blank : α} {bound lo : Nat} {l : List (Nat × α)} (a b : Nat) (v : α)
    (hw : Store.wfFrom blank bound lo l = true) :
    Store.read blank (Store.write blank l a v) b = if b = a then v else Store.read blank l b := by
  induction l generalizing lo with
  | nil => by_cases hv : v = blank <;> by_cases hb : b = a <;> simp [Store.write, Store.read, hv, hb]
  | cons p rest ih =>
    obtain ⟨k, w⟩ := p
    simp only [Store.wfFrom, Bool.and_eq_true, decide_eq_true_eq] at hw
    have hbelow : ∀ c, c ≤ k → Store.read blank rest c = blank := fun c hc => Store.read_below (by omega) hw.2
    rcases Nat.lt_trichotomy a k with h | h | h
    · by_cases hv : v = blank
      · by_cases hb : b = a
        · have : a ≠ k := by omega
          simp [Store.write, Store.read, h, hv, hb, this, hbelow a (by omega)]
        · simp [Store.write, Store.read, h, hv, hb]
      · by_cases hb : b = a <;> simp [Store.write, Store.read, h, hv, hb]
    · subst h
      by_cases hv : v = blank
      · by_cases hb : b = a <;> simp [Store.write, Store.read, hv, hb, hbelow a (Nat.le_refl a)]
      · by_cases hb : b = a <;> simp [Store.write, Store.read, hv, hb]
    · have h1 : ¬a < k := by omega
      have h2 : a ≠ k := by omega
      by_cases hb : b = k
      · have h3 : ¬b = a := by omega
        subst hb
        simp [Store.write, Store.read, h1, h2, h3]
      · simp [Store.write, Store.read, h1, h2, hb, ih hw.2]

/-- A write keeps the canonical form. -/
theorem Store.wfFrom_write {blank : α} {bound lo : Nat} {l : List (Nat × α)} (a : Nat) (v : α) (hlo : lo ≤ a)
    (hb : a < bound) (hw : Store.wfFrom blank bound lo l = true) :
    Store.wfFrom blank bound lo (Store.write blank l a v) = true := by
  induction l generalizing lo with
  | nil => by_cases hv : v = blank <;> simp [Store.write, Store.wfFrom, hv, hlo, hb]
  | cons p rest ih =>
    obtain ⟨k, w⟩ := p
    have hw' := hw
    simp only [Store.wfFrom, Bool.and_eq_true, decide_eq_true_eq] at hw
    rcases Nat.lt_trichotomy a k with h | h | h
    · by_cases hv : v = blank
      · simpa [Store.write, h, hv] using hw'
      · have h5 : a + 1 ≤ k := h
        have h6 : k < bound := hw.1.1.2
        have h7 : ¬w = blank := by simpa using hw.1.2
        simp [Store.write, Store.wfFrom, h, hv, hlo, hb, h5, h6, h7, hw.2]
    · subst h
      by_cases hv : v = blank
      · have := Store.wfFrom_mono (lo' := lo) (by omega) hw.2
        simp [Store.write, hv, this]
      · simp [Store.write, Store.wfFrom, hv, hlo, hb, hw.2]
    · have h1 : ¬a < k := by omega
      have h2 : a ≠ k := by omega
      have h6 : k < bound := hw.1.1.2
      have h7 : ¬w = blank := by simpa using hw.1.2
      simp [Store.write, Store.wfFrom, h1, h2, hw.1.1.1, h6, h7, ih (lo := k + 1) (by omega) hw.2]

/-! ## Banks -/

theorem Bank.wf_entries {b : Bank} (h : b.wf = true) : Store.wfFrom Entry.zero 128 0 b.entries = true := by
  simp only [Bank.wf, Bool.and_eq_true] at h; exact h.1

theorem Bank.wf_pages {b : Bank} (h : b.wf = true) : Store.wfFrom 0#8 256 0 b.pages = true := by
  simp only [Bank.wf, Bool.and_eq_true] at h; exact h.2

/-- A stored entry is read back; every other address reads as before. -/
theorem Bank.entry_setEntry {b : Bank} (h : b.wf = true) (a c : Addr) (e : Entry) :
    (b.setEntry a e).entry c = if c = a then e else b.entry c := by
  simp only [Bank.entry, Bank.setEntry, Store.read_write _ _ _ (Bank.wf_entries h), BitVec.toNat_inj]

/-- A stored pattern is read back; every other pattern reads as before. -/
theorem Bank.pattern_setPattern {b : Bank} (h : b.wf = true) (p q : Fin 8) (i j : Nat) (hi : i < 32) (hj : j < 32)
    (v : Pattern) :
    (b.setPattern p i v).pattern q j = if q = p ∧ j = i then v else b.pattern q j := by
  have hk : patternKey q j = patternKey p i ↔ q = p ∧ j = i := by
    unfold patternKey; constructor
    · intro e; exact ⟨Fin.ext (by omega), by omega⟩
    · rintro ⟨rfl, rfl⟩; rfl
  simp only [Bank.pattern, Bank.setPattern, Store.read_write _ _ _ (Bank.wf_pages h), hk]

@[simp] theorem Bank.pattern_setEntry (b : Bank) (a : Addr) (e : Entry) (p : Fin 8) (i : Nat) :
    (b.setEntry a e).pattern p i = b.pattern p i := rfl
@[simp] theorem Bank.isValid_setEntry (b : Bank) (a : Addr) (e : Entry) (p : Fin 8) :
    (b.setEntry a e).isValid p = b.isValid p := rfl
@[simp] theorem Bank.entry_setPattern (b : Bank) (p : Fin 8) (i : Nat) (v : Pattern) (a : Addr) :
    (b.setPattern p i v).entry a = b.entry a := rfl
@[simp] theorem Bank.isValid_setPattern (b : Bank) (p q : Fin 8) (i : Nat) (v : Pattern) :
    (b.setPattern p i v).isValid q = b.isValid q := rfl
@[simp] theorem Bank.entry_setValid (b : Bank) (p : Fin 8) (a : Addr) : (b.setValid p).entry a = b.entry a := rfl
@[simp] theorem Bank.pattern_setValid (b : Bank) (p q : Fin 8) (i : Nat) :
    (b.setValid p).pattern q i = b.pattern q i := rfl

/-- Setting a page's flag sets that flag and no other. -/
theorem Bank.isValid_setValid (b : Bank) (p q : Fin 8) :
    (b.setValid p).isValid q = (b.isValid q || decide (q = p)) := by
  have h : (1#8 <<< p.val).getLsbD q.val = decide (q = p) := by revert p q; decide
  rw [Bank.isValid, Bank.setValid, BitVec.getLsbD_or, h]; rfl

theorem Bank.wf_setEntry {b : Bank} (h : b.wf = true) (a : Addr) (e : Entry) : (b.setEntry a e).wf = true := by
  simp only [Bank.wf, Bool.and_eq_true, Bank.setEntry, Store.wf] at h ⊢
  exact ⟨Store.wfFrom_write _ _ (Nat.zero_le _) a.isLt h.1, h.2⟩

theorem Bank.wf_setPattern {b : Bank} (h : b.wf = true) (p : Fin 8) (i : Nat) (hi : i < 32) (v : Pattern) :
    (b.setPattern p i v).wf = true := by
  simp only [Bank.wf, Bool.and_eq_true, Bank.setPattern, Store.wf] at h ⊢
  exact ⟨h.1, Store.wfFrom_write _ _ (Nat.zero_le _) (by unfold patternKey; omega) h.2⟩

theorem Bank.wf_setValid {b : Bank} (h : b.wf = true) (p : Fin 8) : (b.setValid p).wf = true := h

theorem Bank.wf_reset : Bank.reset.wf = true := rfl

/-! ## The map store's banks by role -/

@[simp] theorem MapStore.activeBank_setStaging (m : MapStore) (b : Bank) :
    (m.setStaging b).activeBank = m.activeBank := by
  cases h : m.active <;> simp [MapStore.setStaging, MapStore.activeBank, h]

@[simp] theorem MapStore.stagingBank_setStaging (m : MapStore) (b : Bank) : (m.setStaging b).stagingBank = b := by
  cases h : m.active <;> simp [MapStore.setStaging, MapStore.stagingBank, h]

@[simp] theorem MapStore.active_setStaging (m : MapStore) (b : Bank) : (m.setStaging b).active = m.active := by
  cases h : m.active <;> simp [MapStore.setStaging, h]

@[simp] theorem MapStore.generation_setStaging (m : MapStore) (b : Bank) :
    (m.setStaging b).generation = m.generation := by
  cases h : m.active <;> simp [MapStore.setStaging, h]

@[simp] theorem MapStore.activeBank_exchange (m : MapStore) : m.exchange.activeBank = m.stagingBank := by
  cases h : m.active <;> simp [MapStore.exchange, MapStore.activeBank, MapStore.stagingBank, h]

@[simp] theorem MapStore.stagingBank_exchange (m : MapStore) : m.exchange.stagingBank = m.activeBank := by
  cases h : m.active <;> simp [MapStore.exchange, MapStore.activeBank, MapStore.stagingBank, h]

@[simp] theorem MapStore.generation_exchange (m : MapStore) : m.exchange.generation = m.generation + 1#4 := rfl

end Sys2Proof.Machine
end

