-- ==== Sys2Proof/WellFormed.lean ====
section
/-! DEFINITION. Which commands are well formed: those whose operands make the frame, or the completion, that
the row names. The machine gives every command a meaning, well formed or not. -/

namespace Sys2Proof

/-- The digits a receiver can hand over with an ending: at most 24, and exactly 24 with an overlong frame (R9). -/
def Ending.admits (e : Ending) (n : Nat) : Bool :=
  match e with
  | .ended => n ≤ Config.bufferDigits
  | .truncated => n ≤ Config.bufferDigits
  | .overlong => n = Config.bufferDigits

/-- A command is well formed when its frame has a payload of at most 15 digits in the layout of R16 and R18,
or its completion is one that a receiver can make. -/
def Instr.wellFormed (i : Instr) : Bool :=
  match i with
  | .powerOnReset _ _ _ => true
  | .receiveUnit _ _ => true
  | .runGapExpiry => true
  | .takeFrame _ e ds => e.admits ds.length
  | .ownWrite _ _ values => values.length ≤ 14
  | .ownAdjust _ _ masks => masks.length ≤ 14
  | .ownRead _ _ count masks => count ≠ 0#4 && masks.length ≤ 13
  | .resetTraffic _ => true
  | .resetFull _ => true
  | .loadEntry _ _ _ _ => true
  | .loadBlock _ _ _ _ _ => true
  | .loadPatterns _ _ _ _ _ patterns => patterns.length ≤ 5
  | .copyActive _ => true
  | .commit _ => true
  | .swap => true
  | .readEntry _ _ _ _ => true
  | .readPatterns _ _ _ _ _ _ => true
  | .status _ => true
  | .readCounters _ _ => true
  | .clearFaultLatches _ _ => true
  | .clearCounters _ _ => true
  | .setLine _ _ _ _ _ => true
  | .setReporting _ _ _ _ _ => true
  | .setSpurEnable _ _ => true
  | .setSpurDisable _ _ => true
  | .setOptions _ _ _ _ => true
  | .setManager _ _ _ _ _ => true
  | .transmitterReady _ => true
  | .frameDeparts => true
  | .spurFrameDeparts => true
  | .upstreamSilence => true
  | .upstreamRestore => true
  | .spurWatchExpiry => true
  | .spurRestore => true
  | .lineSample _ => true
  | .serviceTick => true
  | .resetAsserted => true

end Sys2Proof
end

