-- ==== Sys2Proof/Tests/Slice0.lean ====
section
/-! SUPPORT. Tests of single commands against the manual's worked examples, and for every statement with hypotheses a witness that
meets them, clause by clause. -/

namespace Sys2Proof.Tests

open Sys2Proof Sys2Proof.Machine

/-! ## Ill-formed commands and words -/

/-- R16: a WRITE carries at most 14 values. -/
theorem test_own_write_too_long_is_ill_formed :
    Instr.wellFormed (.ownWrite ⟨.upstream, 0x00#7, 0#4⟩ 0#4 (List.replicate 15 0#4)) = false := by decide

/-- R16: an ADJUST carries at most 14 masks. -/
theorem test_own_adjust_too_long_is_ill_formed :
    Instr.wellFormed (.ownAdjust ⟨.upstream, 0x00#7, 0#4⟩ 0#4 (List.replicate 15 0#4)) = false := by decide

/-- R16: a READ of 0 cells is no legal READ, nor is one with 14 masks. -/
theorem test_own_read_of_nothing_is_ill_formed :
    Instr.wellFormed (.ownRead ⟨.upstream, 0x00#7, 0#4⟩ 0#4 0#4 []) = false ∧
    Instr.wellFormed (.ownRead ⟨.upstream, 0x00#7, 0#4⟩ 0#4 1#4 (List.replicate 14 0#4)) = false := by decide

/-- R18: LOAD PATTERNS carries at most 5 patterns. -/
theorem test_load_patterns_of_six_is_ill_formed :
    Instr.wellFormed (.loadPatterns ⟨.upstream, 0x00#7, 0#4⟩ 0#4 0#4 0#4 6#4 (List.replicate 6 0#8)) = false := by
  decide

/-- R9: a receiver hands over at most 24 digits, and an overlong frame with all 24. -/
theorem test_impossible_completions_are_ill_formed :
    Instr.wellFormed (.takeFrame .upstream .ended (List.replicate 25 0#4)) = false ∧
    Instr.wellFormed (.takeFrame .upstream .overlong (List.replicate 23 0#4)) = false := by decide

/-- The table gives no row any bits. -/
theorem test_no_word_spells_a_command : decodeTableWord 8 0 = none := rfl

/-! ## Small states -/

/-- What a command leaves. -/
def after (c : Instr) (s : State) : State :=
  match exec c s with
  | .next t => t
  | _ => s

/-- The part of the manual's examples, own address 30h, right after power-on. -/
def station : State := State.powerOn 1#2 0x30#7 0xFFF#12

/-- The controller at 00h on the upstream input. -/
def controller : Requester := { port := .upstream, src := 0x00#7, seq := 1#4 }

/-- The maintenance controller of section 8.8, at 41h on the spur. -/
def maintenance : Requester := { port := .spur, src := 0x41#7, seq := 7#4 }

/-- With the spur in this state, and recorded so. -/
def withSpur (st : SpurState) (s : State) : State :=
  { s with
    spur := { s.spur with state := st }
    spurRx := { state := .skip, buffer := [] }
    sup := { s.sup with lastSpur := st } }

/-- With an entry of the active bank A. -/
def withEntry (a : Addr) (e : EntryDigits) (s : State) : State :=
  { s with map := { s.map with bankA := s.map.bankA.setEntry a (storedForm e) } }

/-- With patterns of a page of bank A, whose flag is set. -/
def withPage (p : Fin 8) (i : Nat) (vs : List Pattern) (s : State) : State :=
  { s with map := { s.map with bankA := (s.map.bankA.putPatterns p i vs).setValid p } }

/-- A READ to 45h, which no entry of the tests touches. -/
def other : Held := { digits := Frame.digits ⟨0x2#4, 0x45#7, 0x00#7, 3#4, [0#4, 1#4]⟩, tag := .none }

/-- With this many frames in the transit queue. -/
def withTransit (n : Nat) (s : State) : State :=
  { s with merge := { s.merge with transit := List.replicate n other } }

/-- With a line's mode, qualified level and catch record. -/
def withLine (l : Fin 12) (mode : LineMode) (hold : Digit) (k : Catch) (s : State) : State :=
  { s with line := { s.line with
      lines := s.line.lines.set l.val { s.line.lines[l] with mode := mode, hold := hold }
      catches := s.line.catches.set l.val k } }

/-- A caught line with count 1. -/
def caughtOnce : Catch := { state := .caught, c := 1#4, n := 0#4 }

/-- An armed line. -/
def armed : Catch := { state := .armed, c := 0#4, n := 0#4 }

/-- A held broadcast POLL that carries the record of line 4. -/
def pollOfLine4 : Held :=
  { digits := Frame.digits ⟨0x6#4, 0x7F#7, 0x00#7, 2#4, [3#4, 0#4, 4#4, 1#4]⟩, tag := .report [4] }

/-- The station with line 4 REPORTING in a POLL of the transit queue, one edge caught since. -/
def reporting : State :=
  let s := withLine 4 .catching 1#4 { state := .reporting, c := 1#4, n := 1#4 } station
  { s with merge := { s.merge with transit := [pollOfLine4] } }

/-- With line 4 in INPUT mode, retired while a frame carries its record. -/
def retiring (s : State) : State :=
  { s with line := { s.line with
      lines := s.line.lines.set 4 { s.line.lines[4] with mode := .input, retire := true }
      catches := s.line.catches.set 4 { state := .reporting, c := 1#4, n := 0#4 } } }

/-- A held BREAK. -/
def heldBreak : Held :=
  { digits := (breakFrame 0x30#7 0x00#7 .silent .closed 3#4).digits
    tag := .condition { oldUp := .live, oldSpur := .closed, newUp := .silent, newSpur := .closed } }

/-- A held EVENT that carries the record of line 4. -/
def heldEvent : Held :=
  { digits := Frame.digits ⟨0x7#4, 0x00#7, 0x30#7, 2#4, [0#4, 0#4, 4#4, 1#4]⟩, tag := .report [4] }

/-- A held REPLY. -/
def heldReply : Held := { digits := Frame.digits ⟨0x3#4, 0x00#7, 0x30#7, 5#4, [0#4]⟩, tag := .none }

/-! ## Chapter 1: the check -/

/-- Section 1.3.2: the WRITE to 25h and its check digits Eh, Ch, and the rewritten one with Eh, Bh. -/
theorem test_worked_check :
    Frame.digits ⟨0x0#4, 0x25#7, 0x00#7, 3#4, [1#4, 7#4]⟩ =
      [0#4, 2#4, 5#4, 0#4, 0#4, 3#4, 2#4, 1#4, 7#4, 0xE#4, 0xC#4] ∧
    Frame.digits ⟨0x0#4, 0x35#7, 0x00#7, 3#4, [1#4, 7#4]⟩ =
      [0#4, 3#4, 5#4, 0#4, 0#4, 3#4, 2#4, 1#4, 7#4, 0xE#4, 0xB#4] := by decide

/-- R4 on the worked frame: the check verifies, and with one digit changed it does not. -/
theorem test_worked_check_verifies :
    checkVerifies [0#4, 2#4, 5#4, 0#4, 0#4, 3#4, 2#4, 1#4, 7#4, 0xE#4, 0xC#4] = true ∧
    checkVerifies [0#4, 2#4, 5#4, 0#4, 0#4, 3#4, 2#4, 1#4, 6#4, 0xE#4, 0xC#4] = false := by decide

/-! ## Chapter 2: intake (section 2.11) -/

/-- The READ to 26h of event 2, mirrored to two full queues. -/
def readTo26 : List Digit := Frame.digits ⟨0x2#4, 0x26#7, 0x00#7, 1#4, [0#4, 1#4]⟩

/-- Section 2.11, event 1: the WRITE to 25h joins the transit queue with destination 35h and a new check. -/
theorem test_remapped_write :
    (after (.takeFrame .upstream .ended [0#4, 2#4, 5#4, 0#4, 0#4, 3#4, 2#4, 1#4, 7#4, 0xE#4, 0xC#4])
      (withEntry 0x25#7 ⟨1#4, 0#4, 1#4, 0#4, 0#4, 0#4⟩ station)).merge.transit.map (fun h => h.digits) =
      [[0#4, 3#4, 5#4, 0#4, 0#4, 3#4, 2#4, 1#4, 7#4, 0xE#4, 0xB#4]] := by decide

/-- Section 2.11, event 2: both copies of a mirrored READ are lost, and counted as two overruns. -/
theorem test_mirrored_overrun :
    let s := withTransit 6 (withEntry 0x26#7 ⟨3#4, 0#4, 0#4, 0#4, 0#4, 0#4⟩ (withSpur .closed station))
    let t := after (.takeFrame .upstream .ended readTo26)
      { s with spur := { s.spur with queue := List.replicate 4 other } }
    t.sup.countOf .transitOverrun = 1#8 ∧ t.sup.countOf .spurOverrun = 1#8 ∧ t.merge.transit.length = 6 := by decide

/-- Section 2.11, event 5: an own-source REPLY is removed as returned. -/
theorem test_returned :
    let t := after (.takeFrame .upstream .ended (Frame.digits ⟨0x3#4, 0x00#7, 0x30#7, 1#4, [0#4]⟩)) station
    t.sup.countOf .returned = 1#8 ∧ t.merge.transit = [] ∧ t.sup.latches = 0#8 := by decide

/-- R9, section 1.7: START, two digits and an IDLE make a truncated frame, a malformed event. -/
theorem test_truncated_by_idle :
    let s := after (.receiveUnit .upstream (unitData 3#4)) (after (.receiveUnit .upstream unitStart) station)
    s.upRx.buffer = [3#4] ∧
    (after (.receiveUnit .upstream unitIdle) s).sup.countOf .malformed = 1#8 ∧
    (after (.receiveUnit .upstream unitIdle) s).gapCount = 0 := by decide

/-! ## Chapter 3: entries and validation (sections 3.8 and 3.9) -/

/-- Section 3.8: the six digits that entries 2Ah to 2Fh read back as. -/
theorem test_stored_form :
    (storedForm ⟨1#4, 3#4, 1#4, 4#4, 0xD#4, 2#4⟩).toDigits = [1#4, 3#4, 1#4, 4#4, 0xD#4, 2#4] ∧
    (storedForm ⟨0#4, 2#4, 5#4, 4#4, 0xF#4, 2#4⟩).toDigits = [0#4, 2#4, 0#4, 0#4, 3#4, 2#4] ∧
    (storedForm ⟨3#4, 0#4, 0#4, 0#4, 0xD#4, 1#4⟩).toDigits = [3#4, 0#4, 0#4, 0#4, 1#4, 1#4] := by decide

/-- Section 3.8: 2Bh goes to 3Fh, 2Ch wraps to the own address, and 2Dh spills to 31h. -/
theorem test_lookup_with_spill :
    let e := storedForm ⟨1#4, 3#4, 1#4, 4#4, 0xD#4, 2#4⟩
    e.disposition .closed .write 0x2B#7 = .copies [⟨.transit, 0x3F#7, false⟩] ∧
    e.disposition .closed .read 0x2C#7 = .copies [⟨.spurOut, 0x30#7, false⟩] ∧
    e.disposition .closed .write 0x2D#7 = .copies [⟨.spurOut, 0x31#7, false⟩] ∧
    e.disposition .opened .write 0x2D#7 = .absorbed := by decide

/-- Section 3.9: the first failure is entry 05h, then 12h, then 7Fh. -/
theorem test_validation_in_address_order :
    let b := ((Bank.reset.setEntry 0x05#7 (storedForm ⟨0#4, 2#4, 0#4, 0#4, 1#4, 3#4⟩)).setEntry 0x12#7
      (storedForm ⟨2#4, 0#4, 0#4, 0#4, 8#4, 0#4⟩)).setEntry 0x7F#7 (storedForm ⟨1#4, 0#4, 0#4, 0#4, 0#4, 0#4⟩)
    b.firstFault 0x30#7 .disabled = some (3#4, 0x05#7) ∧
    (b.setValid 3).firstFault 0x30#7 .disabled = some (2#4, 0x12#7) ∧
    (b.setValid 3).firstFault 0x30#7 .closed = some (4#4, 0x7F#7) := by decide

/-- R44, R146: LOAD ENTRY is answered 1h, 0h, and the staging bank reads back the stored form. -/
theorem test_load_entry :
    let t := after (.loadEntry controller 2#4 8#4 ⟨2#4, 0#4, 0#4, 0#4, 8#4, 0#4⟩) station
    (t.map.bankB.entry 0x28#7).toDigits = [2#4, 0#4, 0#4, 0#4, 8#4, 0#4] ∧
    t.mgmt.last = some ⟨0x00#7, 1#4, 1#4, [1#4, 0#4]⟩ ∧ t.map.bankA = Bank.reset := by decide

/-- Section 3.8: LOAD BLOCK from 2Ah to 2Fh stores six entries. -/
theorem test_load_block :
    let t := after (.loadBlock controller 2#4 0xA#4 0xF#4 ⟨1#4, 3#4, 1#4, 4#4, 0xD#4, 2#4⟩) station
    t.map.bankB.entries.map (fun x => x.1) = [0x2A, 0x2B, 0x2C, 0x2D, 0x2E, 0x2F] ∧
    (t.map.bankB.entry 0x2F#7).toDigits = [1#4, 3#4, 1#4, 4#4, 0xD#4, 2#4] := by decide

/-- R41: COPY ACTIVE copies the active bank to the staging bank. -/
theorem test_copy_active :
    let s := withEntry 0x25#7 ⟨4#4, 0#4, 0#4, 0#4, 0#4, 0#4⟩ station
    (after (.copyActive controller) s).map.bankB = s.map.bankA := by decide

/-- R40, R156: a COMMIT from upstream swaps at once and is answered 5h, 0h, 1h. -/
theorem test_commit :
    let t := after (.commit controller) station
    t.map.active = .b ∧ t.map.generation = 1#4 ∧
    t.mgmt.reply = .full (Frame.digits ⟨0x9#4, 0x00#7, 0x30#7, 1#4, [5#4, 0#4, 1#4]⟩) := by decide

/-- Section 8.8: a COMMIT from the spur waits for the upstream frame, and the swap follows its completion. -/
theorem test_commit_waits_for_the_frame :
    let s := { withSpur .closed station with upRx := { state := .assemble, buffer := [] } }
    let t := after (.commit maintenance) s
    t.mgmt.reply = .reserved ∧ t.map.generation = 0#4 ∧
    (after .swap (after (.receiveUnit .upstream unitEnd) t)).map.generation = 1#4 := by decide

/-! ## Chapter 4: conversion (section 4.10) -/

/-- Section 4.10: the SHOW to 2Ah becomes the PATTERN frame to 3Eh with check 8Bh, in normal and in overlay mode. -/
theorem test_show_becomes_pattern :
    let f : List Digit := Frame.digits ⟨0x4#4, 0x2A#7, 0x00#7, 5#4, [1#4, 3#4, 0#4, 9#4]⟩
    let out : List (List Digit) :=
      [[5#4, 3#4, 0xE#4, 0#4, 0#4, 5#4, 7#4, 1#4, 0xC#4, 0xF#4, 0xB#4, 0xF#4, 0xE#4, 0xF#4, 8#4, 0xB#4]]
    let page (s : State) := withPage 2 0x13 [0xCF#8] (withPage 2 0x10 [0xBF#8] (withPage 2 0x19 [0xEF#8]
      (withPage 2 0x03 [0x4F#8] (withPage 2 0x00 [0x3F#8] (withPage 2 0x09 [0x6F#8] s)))))
    ((after (.takeFrame .upstream .ended f) (page (withEntry 0x2A#7 ⟨1#4, 0#4, 1#4, 4#4, 1#4, 2#4⟩ station))).merge.transit.map
      fun h => h.digits) = out ∧
    ((after (.takeFrame .upstream .ended f) (page (withEntry 0x2A#7 ⟨1#4, 0#4, 1#4, 4#4, 1#4, 0xA#4⟩ station))).merge.transit.map
      fun h => h.digits) = out := by decide

/-- Section 4.11: a SHOW of ten symbols needs two slots, and with one free it is lost as one overrun. -/
theorem test_split_show_refused :
    let s := withTransit 5 (withEntry 0x24#7 ⟨0#4, 2#4, 0#4, 0#4, 1#4, 2#4⟩ station)
    let t := after (.takeFrame .upstream .ended (Frame.digits ⟨0x4#4, 0x24#7, 0x00#7, 9#4, 4#4 :: List.replicate 10 1#4⟩)) s
    t.merge.transit.length = 5 ∧ t.sup.countOf .translated = 1#8 ∧ t.sup.countOf .transitOverrun = 1#8 := by decide

/-- Section 10.2: LOAD PATTERNS writes page 1 of the staging bank and sets its flag. -/
theorem test_load_patterns :
    let t := after (.loadPatterns controller 1#4 0#4 0#4 5#4 [0x3F#8, 0x06#8, 0x5B#8, 0x4F#8, 0x66#8]) station
    t.map.bankB.pattern 1 2 = 0x5B#8 ∧ t.map.bankB.valid = 0x02#8 ∧ t.map.bankA.valid = 0#8 := by decide

/-! ## Chapter 5: runs (section 5.5) -/

/-- The station of section 5.5 with a run open on 25h, cell 1h. -/
def running : State :=
  let s := withEntry 0x25#7 ⟨1#4, 1#4, 1#4, 0#4, 2#4, 0#4⟩ station
  { s with
    sup := { s.sup with gap := 3#4 }
    run := { isOpen := true, dest := 0x25#7, cell := 1#4, adjustTaken := false } }

/-- Section 5.5, event 1: a placed WRITE opens a run. -/
theorem test_write_opens_a_run :
    (after (.takeFrame .upstream .ended (Frame.digits ⟨0x0#4, 0x25#7, 0x00#7, 3#4, [1#4, 7#4]⟩))
      { running with run := .closed }).run = { isOpen := true, dest := 0x25#7, cell := 1#4, adjustTaken := false } := by
  decide

/-- Section 5.5, events 3 to 5: the second WRITE is absorbed, the first ADJUST goes on. -/
theorem test_repeats :
    (after (.takeFrame .upstream .ended (Frame.digits ⟨0x0#4, 0x25#7, 0x01#7, 0xB#4, [1#4, 7#4]⟩)) running).sup.countOf
      .runAbsorbed = 1#8 ∧
    (after (.takeFrame .upstream .ended (Frame.digits ⟨0x1#4, 0x25#7, 0x00#7, 4#4, [1#4, 1#4]⟩)) running).run.adjustTaken =
      true := by decide

/-- Section 5.5, event 6: at the twelfth IDLE the run gap has passed, and the run closes. -/
theorem test_run_gap :
    let s := after (.receiveUnit .upstream unitIdle) { running with gapCount := 11 }
    s.due = [.runGapExpiry] ∧ (after .runGapExpiry s).run = .closed := by decide

/-! ## Chapter 6: the outputs (sections 6.7 and 6.8) -/

/-- Section 6.7, steps 4 and 6: a FULL reply is granted first and keeps the pointer; then the search from 1 finds the spur
return queue. -/
theorem test_grants :
    let s := { station with merge := { station.merge with transit := [other], spurReturn := [other], pointer := 1 } }
    (after (.transmitterReady .downstream) s).merge.tx = .send .spurReturn 0 ∧
    (after (.transmitterReady .downstream) s).merge.pointer = 2 ∧
    (after (.transmitterReady .downstream) { s with mgmt := { s.mgmt with reply := .full [] } }).merge.tx =
      .send .reply 0 ∧
    (after (.transmitterReady .downstream) { s with mgmt := { s.mgmt with reply := .full [] } }).merge.pointer = 1 := by
  decide

/-- R124: the POLL that carries line 4 departs, and the edge caught since is held for the next report. -/
theorem test_departure_of_a_poll :
    let t := after .frameDeparts { reporting with merge := { reporting.merge with tx := .send .transit 3 } }
    t.merge.transit = [] ∧ t.merge.tx = .fill 0 ∧ t.line.catchOf 4 = { state := .caught, c := 1#4, n := 0#4 } := by decide

/-- R104: a frame departs on the spur, and its line is ARMED again. -/
theorem test_departure_on_the_spur :
    let s := withSpur .closed (withLine 4 .catching 1#4 { state := .reporting, c := 2#4, n := 0#4 } station)
    let t := after .spurFrameDeparts { s with spur := { s.spur with queue := [pollOfLine4], tx := .send .spurOut 9 } }
    t.spur.queue = [] ∧ t.line.catchOf 4 = { state := .armed, c := 0#4, n := 0#4 } := by decide

/-- Section 6.8, step 3: SET SPUR disables the spur, and line 4 merges its counts. -/
theorem test_disable_discards :
    let s := withSpur .closed (withLine 4 .catching 1#4 { state := .reporting, c := 2#4, n := 1#4 } station)
    let t := after (.setSpurDisable controller 4#4)
      { s with
        spur := { s.spur with queue := [other, pollOfLine4, other], tx := .send .spurOut 2 }
        merge := { s.merge with spurReturn := [other] } }
    t.spur.state = .disabled ∧ t.spur.queue = [] ∧ t.merge.spurReturn = [] ∧ t.spur.tx = .fill 0 ∧
    t.line.catchOf 4 = { state := .caught, c := 3#4, n := 0#4 } := by decide

/-- Section 6.8: while the broadcast entry diverts, the disable is refused with data 2h, 7h, Fh. -/
theorem test_disable_refused :
    let s := withEntry 0x7F#7 ⟨2#4, 0#4, 0#4, 0#4, 0#4, 0#4⟩ (withSpur .closed station)
    let t := after (.setSpurDisable controller 4#4) s
    t.spur.state = .closed ∧ t.mgmt.last = some ⟨0x00#7, 1#4, 0xD#4, [0xD#4, 4#4, 2#4, 7#4, 0xF#4]⟩ := by decide

/-- R107: SET SPUR with enable 1h makes the spur CLOSED and its receiver skip. -/
theorem test_enable :
    let t := after (.setSpurEnable controller 4#4) station
    t.spur.state = .closed ∧ t.spurRx.state = .skip ∧ t.sup.lastSpur = .closed := by decide

/-! ## Chapter 7: lines (sections 7.9 and 7.10) -/

/-- Section 7.9: lines 0 to 3 in OUTPUT mode, latches 5h, 0h, Ah, one REPLY held. -/
def lights : State :=
  let s := withLine 0 .output 1#4 (Catch.empty .none) station
  { s with
    line := { s.line with latches := ((s.line.latches.set 0 5#4).set 1 0#4).set 2 0xA#4 }
    merge := { s.merge with insertion := [heldReply] } }

/-- Section 7.9: the REPLY with payload 0h, 0h, 1h, 0h, Ah and check E4h, and one access error. -/
theorem test_read_across_the_end :
    let t := after (.ownRead { controller with seq := 6#4 } 0xE#4 5#4 [0xF#4, 0xF#4, 3#4]) lights
    t.merge.insertion.map (fun h => h.digits) = [heldReply.digits,
      [3#4, 0#4, 0#4, 3#4, 0#4, 6#4, 5#4, 0#4, 0#4, 1#4, 0#4, 0xA#4, 0xE#4, 4#4]] ∧
    t.sup.isSet .localAccessError = true ∧ t.line.catchOf pseudoLine = caughtOnce := by decide

/-- R118: a WRITE from cell Fh on discards its first digit and stores the next in cell 0h; an ADJUST combines. -/
theorem test_write_and_adjust_cells :
    let s := after (.ownWrite controller 0xF#4 [9#4, 5#4]) station
    s.line.latches.toList = [5#4, 0#4, 0#4] ∧ s.sup.isSet .localAccessError = true ∧
    (after (.ownAdjust controller 0#4 [6#4]) s).line.latches.toList = [3#4, 0#4, 0#4] := by decide

/-- Section 7.10, steps 1 and 2: with hold 2, the second low sample qualifies and line 4 is CAUGHT. -/
theorem test_samples :
    let s := after (.lineSample 0xFEF#12) (withLine 4 .catching 2#4 armed station)
    s.line.catchOf 4 = armed ∧ (after (.lineSample 0xFEF#12) s).line.catchOf 4 = caughtOnce := by decide

/-- Three lines with an edge at one sample may move in any of their six orders. -/
theorem test_any_order :
    ((List.range 6).map fun n => anyOrder n [3, 1, 2]) =
      [[3, 1, 2], [1, 3, 2], [1, 2, 3], [3, 2, 1], [2, 3, 1], [2, 1, 3]] := by decide

/-- Section 7.10, step 7: the POLL with one record already in it takes two of the part's three, and check BDh. -/
theorem test_poll_with_little_room :
    let s := withLine 5 .catching 2#4 caughtOnce (withLine 4 .catching 2#4 { caughtOnce with c := 2#4 } station)
    let t := after (.takeFrame .upstream .ended (Frame.digits ⟨0x6#4, 0x7F#7, 0x00#7, 2#4, [1#4, 2#4, 3#4, 1#4]⟩))
      { s with line := { s.line with catches := s.line.catches.set 12 caughtOnce } }
    t.merge.transit =
      [{ digits := [6#4, 7#4, 0xF#4, 0#4, 0#4, 2#4, 0xC#4, 1#4, 2#4, 3#4, 1#4, 3#4, 0#4, 4#4, 2#4, 3#4, 0#4, 5#4, 1#4,
          0xB#4, 0xD#4], tag := .report [4, 5] }] ∧
    (t.line.catchOf 5).state = .reporting ∧ t.line.catchOf pseudoLine = caughtOnce := by decide

/-- R133: SET LINE puts a CAUGHT line in INPUT mode, and its count is dropped. -/
theorem test_set_line :
    let t := after (.setLine controller 6#4 1#4 0#4 1#4) (withLine 6 .catching 1#4 caughtOnce station)
    t.line.catchOf 6 = Catch.empty .none ∧ (t.line.lines[6]).mode = .input ∧
    (after (.setLine controller 6#4 2#4 0#4 1#4) station).line.catchOf 6 = Catch.empty .armed := by decide

/-- R131: SET REPORTING sets the report address; an address above row 7h is INVALID. -/
theorem test_set_reporting :
    (after (.setReporting controller 0#4 4#4 5#4 2#4) station).line.reportAddr = 0x45#7 ∧
    (after (.setReporting controller 0#4 8#4 5#4 2#4) station).mgmt.last = some ⟨0x00#7, 1#4, 0xC#4, [0xC#4, 1#4]⟩ := by
  decide

/-! ## Chapter 8: management (section 8.7) -/

/-- Section 8.7, event 1: SET MANAGER is answered Fh, 0h; event 3: its retry is replayed once the slot is free. -/
theorem test_set_manager_and_replay :
    let s := after (.setManager { controller with seq := 4#4 } 0#4 1#4 0#4 0#4) station
    s.mgmt.manager0 = some 0x00#7 ∧
    (after (.setManager { controller with seq := 4#4 } 1#4 1#4 4#4 1#4)
      { s with mgmt := { s.mgmt with reply := .free } }).mgmt.manager1 = none := by decide

/-- Section 8.7, event 7: the STATUS reply with its check D4h. -/
theorem test_status :
    let s := { station with mgmt := { station.mgmt with manager0 := some 0x00#7 }, sup := { station.sup with latches := 0x80#8 } }
    (after (.status { controller with seq := 5#4 }) s).mgmt.reply =
      .full [9#4, 0#4, 0#4, 3#4, 0#4, 5#4, 0xA#4, 8#4, 0#4, 0#4, 0#4, 0#4, 8#4, 0#4, 0#4, 1#4, 0#4, 0xD#4, 4#4] := by decide

/-- Section 8.7, event 5: a STATUS that finds the slot FULL is dropped, counted and latched. -/
theorem test_status_dropped :
    let t := after (.status controller) { station with mgmt := { station.mgmt with reply := .full [] } }
    t.sup.countOf .mgmtDropped = 1#8 ∧ t.sup.isSet .mgmtOverrun = true := by decide

/-- R19, R150: READ COUNTERS of group 1h returns RUN_ABSORBED first, high digit first. -/
theorem test_read_counters :
    let s := { station with sup := { station.sup with counters := station.sup.counters.set 4 0x2F#8 } }
    (after (.readCounters controller 1#4) s).mgmt.last =
      some ⟨0x00#7, 1#4, 9#4, [9#4, 0#4, 2#4, 0xF#4, 0#4, 0#4, 0#4, 0#4, 0#4, 0#4]⟩ := by decide

/-- R169: CLEAR with selection 1h leaves the counters, and with 2h the latches. -/
theorem test_clear :
    let s := { station with sup := { station.sup with latches := 0x81#8, counters := station.sup.counters.set 4 0x2F#8 } }
    (after (.clearFaultLatches controller false) s).sup.latches = 0#8 ∧
    (after (.clearFaultLatches controller false) s).sup.countOf .runAbsorbed = 0x2F#8 ∧
    (after (.clearCounters controller false) s).sup.latches = 0x81#8 ∧
    (after (.clearCounters controller false) s).sup.countOf .runAbsorbed = 0#8 := by decide

/-- R45: READ ENTRY of the active bank returns the six stored digits. -/
theorem test_read_entry :
    (after (.readEntry controller 0#4 2#4 8#4) (withEntry 0x28#7 ⟨2#4, 0#4, 0#4, 0#4, 8#4, 0#4⟩ station)).mgmt.last =
      some ⟨0x00#7, 1#4, 6#4, [6#4, 0#4, 2#4, 0#4, 0#4, 0#4, 8#4, 0#4]⟩ := by decide

/-- R65: READ PATTERNS returns two patterns, each high digit first. -/
theorem test_read_patterns :
    (after (.readPatterns controller 0#4 2#4 1#4 0xE#4 2#4) (withPage 2 0x1E [0x3F#8, 0x06#8] station)).mgmt.last =
      some ⟨0x00#7, 1#4, 7#4, [7#4, 0#4, 3#4, 0xF#4, 0#4, 6#4]⟩ := by decide

/-- R148: a TRAFFIC reset keeps the manager list and the latches, and a FULL reset does not. -/
theorem test_resets :
    let s := { station with mgmt := { station.mgmt with manager0 := some 0x00#7 }, sup := { station.sup with latches := 1#8 } }
    (after (.resetTraffic controller) s).mgmt.manager0 = some 0x00#7 ∧
    (after (.resetTraffic controller) s).sup.latches = 1#8 ∧
    (after (.resetFull controller) s).mgmt.manager0 = none ∧ (after (.resetFull controller) s).sup.latches = 0#8 := by
  decide

/-- Section 10.2: SET OPTIONS sets DROP, g = 3h and 4 ms. -/
theorem test_set_options :
    let t := after (.setOptions controller 1#4 3#4 4#4) station
    t.sup.policy = .drop ∧ t.sup.gap = 3#4 ∧ t.sup.silenceTime = 4#4 ∧ t.mgmt.last = some ⟨0x00#7, 1#4, 0xE#4, [0xE#4, 0#4]⟩ := by
  decide

/-! ## Chapter 9: supervision (sections 9.8 and 9.9) -/

/-- The part of section 9.8 at its start: generation 3, spur CLOSED. -/
def cabinet : State :=
  let s := withSpur .closed station
  { s with map := { s.map with generation := 3#4 } }

/-- Section 9.8, event 1: the fourth tick makes the change due, the frame is truncated, and B1 has check EAh. -/
theorem test_silence :
    let s := after .serviceTick
      { cabinet with upRx := { state := .assemble, buffer := [1#4] }, sup := { cabinet.sup with silenceCount := 3 } }
    let t := after .upstreamSilence s
    s.due = [.upstreamSilence] ∧ t.sup.up = .silent ∧ t.sup.countOf .changes = 1#8 ∧ t.sup.latches = 0x09#8 ∧
    t.merge.insertion.map (fun h => h.digits) =
      [[0xB#4, 0#4, 0#4, 3#4, 0#4, 0#4, 3#4, 1#4, 1#4, 3#4, 0xE#4, 0xA#4]] := by decide

/-- Section 9.8, event 2: the spur opens while a BREAK is held, and nothing is built. -/
theorem test_spur_opens :
    let t := after .spurWatchExpiry
      { cabinet with due := [.spurWatchExpiry], merge := { cabinet.merge with insertion := [heldBreak] } }
    t.spur.state = .opened ∧ t.sup.isSet .condition = true ∧ t.merge.insertion = [heldBreak] := by decide

/-- R162, R106: the restores, each by 64 IDLE units. -/
theorem test_restores :
    let s := after (.receiveUnit .upstream unitIdle)
      { cabinet with sup := { cabinet.sup with up := .silent, lastUp := .silent, restoreCount := 63 } }
    let u := after (.receiveUnit .spur unitIdle)
      { cabinet with spur := { cabinet.spur with state := .opened, restoreCount := 63 } }
    (after .upstreamRestore s).sup.up = .live ∧ (after .spurRestore u).spur.state = .closed := by decide

/-- Section 9.9: the TRACE leaves with hop count 2h, the record 3h, 0h, 3h, 5h, and check C3h. -/
theorem test_trace :
    let s := { cabinet with
      sup := { cabinet.sup with latches := 8#8 }, mgmt := { cabinet.mgmt with manager0 := some 0x00#7 } }
    (after (.takeFrame .upstream .ended
      (Frame.digits ⟨0xA#4, 0x7F#7, 0x00#7, 1#4, [1#4, 1#4, 2#4, 3#4, 0#4]⟩)) s).merge.transit.map (fun h => h.digits) =
      [[0xA#4, 7#4, 0xF#4, 0#4, 0#4, 1#4, 9#4, 2#4, 1#4, 2#4, 3#4, 0#4, 3#4, 0#4, 3#4, 5#4, 0xC#4, 3#4]] := by decide

/-- R15, R2: RESET held low stops the part; its release reads the straps. -/
theorem test_reset_pin :
    let s := after .resetAsserted { station with merge := { station.merge with tx := .send .transit 2, transit := [other] } }
    s.merge.tx = .fill 0 ∧ after .serviceTick s = s ∧
    (after (.powerOnReset 2#2 0x25#7 0#12) s).adr = 0x25#7 ∧ (after (.powerOnReset 2#2 0x25#7 0#12) s).rate = 2#2 ∧
    ((after (.powerOnReset 2#2 0x25#7 0#12) s).line.lines[3]).qualified = false := by decide

/-! ## Witnesses

For each statement of Certificates/Slice0/Obligations.lean that has hypotheses, a state and operands that meet them together, clause
by clause where the statement has several. -/

/-- A part that manages the controller, told field by field. -/
theorem manages_controller {s : State} (h : s.resetLow = false ∧ s.due = [] ∧ s.upRx.state ≠ .assemble ∧
    s.mgmt.commit = none ∧ s.sup.up = .live ∧ s.adr = 0x30#7 ∧ s.mgmt.reply = .free ∧
    s.mgmt.accepts 0x00#7 = true ∧ s.mgmt.last = none) : s.Manages controller := by
  obtain ⟨h1, h2, h3, h4, h5, h6, h7, h8, h9⟩ := h
  refine ⟨⟨⟨h1, h2⟩, ⟨h3, h4, h5⟩, ?_, ?_⟩, h7, h8, ?_⟩
  · rw [h6]; decide
  · rw [h6]; decide
  · intro r hr; rw [h9] at hr; cases hr

/-- A part that manages the maintenance controller on the spur, told field by field. -/
theorem manages_maintenance {s : State} (h : s.resetLow = false ∧ s.due = [] ∧ s.spurRx.state ≠ .assemble ∧
    s.mgmt.commit = none ∧ s.spur.state = .closed ∧ s.adr = 0x30#7 ∧ s.mgmt.reply = .free ∧
    s.mgmt.accepts 0x41#7 = true ∧ s.mgmt.last = none) : s.Manages maintenance := by
  obtain ⟨h1, h2, h3, h4, h5, h6, h7, h8, h9⟩ := h
  refine ⟨⟨⟨h1, h2⟩, ⟨h3, h4, h5⟩, ?_, ?_⟩, h7, h8, ?_⟩
  · rw [h6]; decide
  · rw [h6]; decide
  · intro r hr; rw [h9] at hr; cases hr

/-- A quiet part that hears the upstream input between frames. -/
def HearsUpstream (s : State) : Prop := s.Quiet ∧ s.Hears .upstream

/-- The same, told field by field. -/
theorem hears_upstream {s : State} (h : s.resetLow = false ∧ s.due = [] ∧ s.upRx.state ≠ .assemble ∧
    s.mgmt.commit = none ∧ s.sup.up = .live) : HearsUpstream s :=
  ⟨⟨h.1, h.2.1⟩, h.2.2.1, h.2.2.2.1, h.2.2.2.2⟩

theorem station_manages : station.Manages controller := manages_controller (by decide)

theorem witness_StepRunsTheCommandInFront :
    ({ station with pending := [.swap, .serviceTick] } : State).pending = .swap :: [.serviceTick] := rfl

/-- A first unit, at the boundary the last digit's unit of a frame of eleven digits, and its END, on both outputs; FILL at its first
IDLE and at its second; and READY. -/
theorem witness_EmptyQueueSendsTheNextUnits :
    (∃ s : State, s.pending = [] ∧ s.Quiet ∧ s.merge.tx = .send .transit 0 ∧ s.framesOf .transit = [other]) ∧
    (∃ s : State, s.pending = [] ∧ s.Quiet ∧ s.merge.tx = .send .transit 11 ∧ s.framesOf .transit = [other] ∧
      11 ≤ other.digits.length) ∧
    (∃ s : State, s.pending = [] ∧ s.Quiet ∧ s.merge.tx = .send .transit 12 ∧ s.framesOf .transit = [other] ∧
      other.digits.length < 12 ∧ ∀ x n, s.spur.tx ≠ .send x n) ∧
    (∃ s : State, s.pending = [] ∧ s.Quiet ∧ s.spur.tx = .send .spurOut 11 ∧ s.spur.queue = [other] ∧
      ∀ n, s.merge.tx ≠ .send .spurOut n) ∧
    (∃ s : State, s.pending = [] ∧ s.Quiet ∧ s.spur.tx = .send .spurOut 12 ∧ s.spur.queue = [other] ∧
      s.merge.tx = .fill 0) ∧
    (station.pending = [] ∧ station.Quiet ∧ station.merge.tx = .fill 0 ∧ station.spur.tx = .fill 0) ∧
    (∃ s : State, s.pending = [] ∧ s.Quiet ∧ s.merge.tx = .fill (0 + 1) ∧ s.spur.tx = .fill (0 + 1)) ∧
    ∃ s : State, s.pending = [] ∧ s.Quiet ∧ s.merge.tx = .ready ∧ s.spur.tx = .ready :=
  ⟨⟨{ station with merge := { station.merge with tx := .send .transit 0, transit := [other] } },
      rfl, ⟨rfl, rfl⟩, rfl, rfl⟩,
    ⟨{ station with merge := { station.merge with tx := .send .transit 11, transit := [other] } },
      rfl, ⟨rfl, rfl⟩, rfl, rfl, by decide⟩,
    ⟨{ station with merge := { station.merge with tx := .send .transit 12, transit := [other] } },
      rfl, ⟨rfl, rfl⟩, rfl, rfl, by decide, fun _ _ h => nomatch h⟩,
    ⟨{ station with spur := { station.spur with tx := .send .spurOut 11, queue := [other] } },
      rfl, ⟨rfl, rfl⟩, rfl, rfl, fun _ h => nomatch h⟩,
    ⟨{ station with spur := { station.spur with tx := .send .spurOut 12, queue := [other] } },
      rfl, ⟨rfl, rfl⟩, rfl, rfl, rfl⟩,
    ⟨rfl, ⟨rfl, rfl⟩, rfl, rfl⟩,
    ⟨{ station with merge := { station.merge with tx := .fill 1 }, spur := { station.spur with tx := .fill 1 } },
      rfl, ⟨rfl, rfl⟩, rfl, rfl⟩,
    ⟨{ station with merge := { station.merge with tx := .ready }, spur := { station.spur with tx := .ready } },
      rfl, ⟨rfl, rfl⟩, rfl, rfl⟩⟩

theorem witness_ResetHeldLowStopsThePart :
    station.Quiet ∧ ({ station with resetLow := true } : State).resetLow = true ∧
      ∀ rate adr pins, Instr.serviceTick ≠ .powerOnReset rate adr pins :=
  ⟨⟨rfl, rfl⟩, rfl, fun _ _ _ h => nomatch h⟩

theorem reporting_reports : ReportingLaw reporting :=
  ⟨by decide, by decide, fun _ h => nomatch h⟩

/-- The station with a COMMIT from the spur that waits for the upstream frame, of which `n` digits have been received. -/
def awaiting (n : Nat) : State :=
  { withSpur .closed station with
    upRx := { state := .assemble, buffer := List.replicate n 0#4 }
    mgmt := { station.mgmt with reply := .reserved, commit := some (0x41#7, 7#4) } }

/-- A part in report mode POLL that holds a report of line 4; one in EVENT mode with a READY transmitter and line 4 retired; and one
with a held BREAK, whose two records still hold what it reported, or have changed since. -/
theorem witness_TrafficResetFlushesTheQueues :
    (reporting.Manages controller ∧ reporting.merge.tx ≠ .ready ∧ ReportingLaw reporting ∧
      reporting.line.reportMode = .poll ∧ pinLine 4 ∈ reporting.reportedLines) ∧
    (∃ s : State, s.Manages controller ∧ s.merge.tx = .ready ∧ ReportingLaw s ∧ s.line.reportMode = .event ∧
      taggedLines (heldInQueues s) = [4] ∧ (s.line.lines[(4 : Fin 12)]).retire = true ∧
      conditionTags (heldInQueues s) = []) ∧
    ∃ (s u : State) (c : ConditionTag), s.Manages controller ∧ u.Manages controller ∧
      conditionTags (heldInQueues s) = [c] ∧ conditionTags (heldInQueues u) = [c] ∧ s.sup.lastUp = c.newUp ∧
      recordReverted s.sup.lastUp c.newUp c.oldUp = s.sup.up ∧ u.sup.lastUp ≠ c.newUp ∧
      recordReverted s.sup.lastSpur c.newSpur c.oldSpur = s.spur.state ∧ s.line.reportAddr ≠ s.adr :=
  ⟨⟨manages_controller (by decide), by decide, reporting_reports, rfl, by decide⟩,
    ⟨{ withSpur .closed (retiring station) with
        line := { (retiring station).line with reportMode := .event }
        merge := { station.merge with tx := .ready }
        spur := { station.spur with state := .closed, queue := [pollOfLine4] } },
      manages_controller (by decide), rfl, ⟨by decide, by decide, fun _ h => nomatch h⟩, rfl, by decide, rfl, by decide⟩,
    { cabinet with
      sup := { cabinet.sup with lastUp := .silent }
      merge := { cabinet.merge with insertion := [heldBreak] } },
    { cabinet with merge := { cabinet.merge with insertion := [heldBreak] } },
    { oldUp := .live, oldSpur := .closed, newUp := .silent, newSpur := .closed },
    manages_controller (by decide), manages_controller (by decide), by decide, by decide, rfl, by decide, by decide,
    by decide, by decide⟩

/-- A LIVE part, one whose transmitter is READY, and a SILENT one reset from the spur. -/
theorem witness_FullResetSetsEveryBlock :
    (station.Manages controller ∧ station.sup.up = .live ∧ station.merge.tx ≠ .ready) ∧
    (∃ s : State, s.Manages controller ∧ s.merge.tx = .ready) ∧
    ∃ s : State, s.Manages maintenance ∧ s.sup.up = .silent ∧ s.adr ≠ 0x00#7 :=
  ⟨⟨station_manages, rfl, by decide⟩,
    ⟨{ station with merge := { station.merge with tx := .ready } }, manages_controller (by decide), rfl⟩,
    ⟨{ withSpur .closed station with sup := { station.sup with up := .silent } }, manages_maintenance (by decide), rfl,
      by decide⟩⟩

theorem witness_UnitsActByTheirClass :
    classOf { mark := true, value := 1#4 } = classOf { mark := true, value := 0xE#4 } := by decide

/-- A DISABLED spur; each class of unit in HUNT and in SKIP. -/
theorem witness_UnitsBetweenFrames :
    (station.Quiet ∧ (station.rx .spur).state ≠ .assemble ∧ station.spur.state = .disabled) ∧
    (station.Quiet ∧ (station.rx .upstream).state = .hunt ∧ classOf unitStart = .start ∧ classOf unitIdle = .idle ∧
      classOf unitEnd ≠ .start ∧ classOf unitEnd ≠ .idle) ∧
    ((withSpur .closed station).Quiet ∧ ((withSpur .closed station).rx .spur).state = .skip ∧
      (withSpur .closed station).spur.state ≠ .disabled) :=
  ⟨⟨⟨rfl, rfl⟩, by decide, rfl⟩, ⟨⟨rfl, rfl⟩, rfl, rfl, rfl, by decide, by decide⟩, ⟨rfl, rfl⟩, rfl, by decide⟩

/-- A receiver in ASSEMBLE with 23 digits, which takes one more, and with 24, which does not; a SILENT upstream side and an OPEN spur
one unit short of a restore, cut short by an IDLE; each class of unit. -/
theorem witness_UnitsInsideAFrame :
    (∃ s : State, s.Quiet ∧ s.rx .upstream = { state := .assemble, buffer := List.replicate 23 0#4 } ∧
      (List.replicate 23 0#4).length < 24) ∧
    (∃ s : State, s.Quiet ∧ s.rx .upstream = { state := .assemble, buffer := List.replicate 24 0#4 } ∧
      s.mgmt.commit = none ∧ s.sup.up = .live ∧ 24 ≤ (List.replicate 24 0#4).length) ∧
    (∃ s : State, s.Quiet ∧ s.rx .upstream = { state := .assemble, buffer := [0#4] } ∧ s.mgmt.commit = none ∧
      s.sup.up = .silent ∧ 64 ≤ s.sup.restoreCount + 1) ∧
    (∃ s : State, s.Quiet ∧ s.rx .spur = { state := .assemble, buffer := [0#4] } ∧ s.mgmt.commit = none ∧
      s.spur.state = .opened ∧ 64 ≤ s.spur.restoreCount + 1) ∧
    classOf (unitData 5#4) = .data 5#4 ∧ classOf unitStart = .start ∧ classOf { mark := true, value := 7#4 } = .stray ∧
    classOf unitIdle = .idle :=
  ⟨⟨{ station with upRx := { state := .assemble, buffer := List.replicate 23 0#4 } }, ⟨rfl, rfl⟩, rfl, by decide⟩,
    ⟨{ station with upRx := { state := .assemble, buffer := List.replicate 24 0#4 } }, ⟨rfl, rfl⟩, rfl, rfl, rfl,
      by decide⟩,
    ⟨{ station with
        upRx := { state := .assemble, buffer := [0#4] }, sup := { station.sup with up := .silent, restoreCount := 63 } },
      ⟨rfl, rfl⟩, rfl, rfl, rfl, by decide⟩,
    ⟨{ station with
        spurRx := { state := .assemble, buffer := [0#4] }
        spur := { station.spur with state := .opened, restoreCount := 63 } },
      ⟨rfl, rfl⟩, rfl, rfl, rfl, by decide⟩, rfl, rfl, rfl, rfl⟩

/-- A frame of 24 digits, and an own-frame row. -/
theorem witness_FrameIsTakenAsItsUnits :
    station.Quiet ∧ (List.replicate 24 (0#4 : Digit)).length ≤ 24 ∧
      ownFrameOf (.ownRead controller 0#4 15#4 []) = some (controller, 0x2#4, [0#4, 15#4]) :=
  ⟨⟨rfl, rfl⟩, by decide, rfl⟩

/-- A truncated frame, one of 8 digits, one whose length digit is one too high, and those with row 8 of the destination and of the
source. -/
theorem witness_MalformedFramesAreDropped :
    station.Quiet ∧ station.Between .upstream ∧ (withSpur .closed station).Between .spur ∧
    MalformedFrame .truncated [] ∧ MalformedFrame .ended (List.replicate 8 0#4) ∧
    MalformedFrame .ended [0#4, 0#4, 0#4, 0#4, 0#4, 0#4, 1#4, 0#4, 0#4] ∧
    MalformedFrame .ended [0#4, 8#4, 0#4, 0#4, 0#4, 0#4, 0#4, 0#4, 0#4] ∧
    MalformedFrame .ended [0#4, 0#4, 0#4, 8#4, 0#4, 0#4, 0#4, 0#4, 0#4] :=
  ⟨⟨rfl, rfl⟩, ⟨by decide, rfl, fun h => nomatch h⟩, ⟨by decide, rfl, fun _ => by decide⟩,
    .inl (by decide), .inr (.inl (by decide)), .inr (.inr (.inl (by decide))), .inr (.inr (.inr (.inl (by decide)))),
    .inr (.inr (.inr (.inr (by decide))))⟩

/-- A damaged frame of nine digits under either policy. -/
theorem witness_DamagedFramesFollowThePolicy :
    station.Quiet ∧ station.Between .upstream ∧ station.sup.policy = .forward ∧
    ({ station with sup := { station.sup with policy := .drop } } : State).sup.policy = .drop ∧
    ¬MalformedFrame .ended [0#4, 0#4, 0#4, 0#4, 0#4, 0#4, 0#4, 0#4, 1#4] ∧
    checkVerifies [0#4, 0#4, 0#4, 0#4, 0#4, 0#4, 0#4, 0#4, 1#4] = false :=
  ⟨⟨rfl, rfl⟩, ⟨by decide, rfl, fun h => nomatch h⟩, rfl, rfl, by unfold MalformedFrame; decide, by decide⟩

/-- An own-source frame, a misdirected one, and malformed own frames: a WRITE of length 0 and a READ of no cells. -/
theorem witness_OwnFramesThatStopAtIntake :
    HearsUpstream station ∧ station.adr ≠ Config.broadcast ∧
    (Frame.mk 0x3#4 0x00#7 0x30#7 0#4 []).src = station.adr ∧
    (∃ f : Frame, f.src ≠ station.adr ∧ f.dst = station.adr ∧ f.kind = 0x9#4) ∧
    (∃ f : Frame, f.src ≠ station.adr ∧ f.dst = station.adr ∧ f.kind = 0x0#4 ∧ f.payload = []) ∧
    (∃ f : Frame, f.src ≠ station.adr ∧ f.dst = station.adr ∧ f.kind = 0x2#4 ∧ f.payload.getD 1 0#4 = 0#4) :=
  ⟨hears_upstream (by decide), by decide, rfl, ⟨⟨0x9#4, 0x30#7, 0x00#7, 0#4, []⟩, by decide, rfl, rfl⟩,
    ⟨⟨0x0#4, 0x30#7, 0x00#7, 0#4, []⟩, by decide, rfl, rfl, rfl⟩,
    ⟨⟨0x2#4, 0x30#7, 0x00#7, 0#4, [1#4, 0#4]⟩, by decide, rfl, rfl, rfl⟩⟩

/-- A WRITE to 45h from the spur, and a frame of kind Ch from upstream. -/
theorem witness_UninterpretedFramesAreSentOnUnchanged :
    (HearsUpstream station ∧ station.Foreign ⟨0xC#4, 0x45#7, 0x00#7, 0#4, []⟩ ∧ 12 ≤ (0xC#4 : Digit).toNat) ∧
    ((withSpur .closed station).Quiet ∧ (withSpur .closed station).Hears .spur ∧
      (withSpur .closed station).Foreign ⟨0x0#4, 0x45#7, 0x00#7, 0#4, [1#4]⟩) :=
  ⟨⟨hears_upstream (by decide), .inr ⟨by decide, by decide⟩, by decide⟩, ⟨rfl, rfl⟩, ⟨by decide, rfl, rfl⟩,
    .inr ⟨by decide, by decide⟩⟩

/-- A READ to 25h. -/
def readTo25 : Frame := ⟨0x2#4, 0x25#7, 0x00#7, 1#4, [0#4, 1#4]⟩

/-- A SHOW of one symbol to 25h. -/
def showTo25 : Frame := ⟨0x4#4, 0x25#7, 0x00#7, 1#4, [1#4, 3#4]⟩

/-- A SHOW of no digits to 25h. -/
def showOfNothing : Frame := ⟨0x4#4, 0x25#7, 0x00#7, 1#4, []⟩

/-- A WRITE to 25h, cell 2h. -/
def writeTo25 : Frame := ⟨0x0#4, 0x25#7, 0x00#7, 1#4, [2#4, 7#4]⟩

/-- An ADJUST to 25h, cell 2h. -/
def adjustTo25 : Frame := ⟨0x1#4, 0x25#7, 0x00#7, 1#4, [2#4, 7#4]⟩

/-- A TRACE to 25h with no record. -/
def traceTo25 : Frame := ⟨0xA#4, 0x25#7, 0x00#7, 1#4, [1#4]⟩

/-- The frames to 25h that the statements about the main path take: any of the above, and a POLL that is not broadcast. -/
def mappedTo25 : List Frame :=
  [readTo25, showTo25, showOfNothing, writeTo25, adjustTo25, traceTo25, ⟨0x6#4, 0x25#7, 0x00#7, 1#4, []⟩]

/-- While no run is open, or the one that is open is another cell's, and the run gap is 0, the main path only maps and places them. -/
theorem mapped_to_25 {s : State} (hr : s.run = .closed ∨ s.run = { running.run with cell := 1#4 }) (hg : s.sup.gap = 0#4)
    (ha : s.adr = 0x30#7) : ∀ f ∈ mappedTo25, s.Foreign f ∧ onlyMapped s f ∧ f.payload.length ≤ 15 := by
  intro f hf
  simp only [mappedTo25, List.mem_cons, List.not_mem_nil, or_false] at hf
  rcases hf with rfl | rfl | rfl | rfl | rfl | rfl | rfl <;>
    refine ⟨.inr (by rw [ha]; decide), ⟨by decide, fun h => ⟨?_, .inr (by decide), .inr (.inr (.inl hg))⟩,
      fun h => .inr (.inl (by decide))⟩, by decide⟩ <;>
    first
      | exact absurd h (by decide)
      | rcases hr with hr | hr
        · exact .inl hr
        · rw [outsideTheRun, hr]; exact .inr ⟨rfl, .inr (by decide)⟩

/-- An entry that passes, translating, one that does not name a READ, and one that absorbs, with every kind of frame that the statement
takes; the WRITE and the ADJUST in no run and beside one; and a WRITE of length 0 to an entry that absorbs runs, with g = 3h. -/
theorem witness_PassAndAbsorbEntries :
    (∀ f ∈ mappedTo25, station.Foreign f ∧ onlyMapped station f ∧ f.payload.length ≤ 15) ∧
    (∃ s : State, HearsUpstream s ∧ s.run.isOpen = true ∧
      (∀ f ∈ mappedTo25, s.Foreign f ∧ onlyMapped s f ∧ f.payload.length ≤ 15) ∧
      (s.map.activeBank.entry 0x25#7).action = .pass ∧
      asksTranslation (s.map.activeBank.entry 0x25#7) showTo25) ∧
    (∃ s : State, HearsUpstream s ∧ ¬named (s.map.activeBank.entry 0x25#7).selector readTo25.kind) ∧
    (∃ s : State, HearsUpstream s ∧ (∀ f ∈ mappedTo25, named (s.map.activeBank.entry 0x25#7).selector f.kind) ∧
      (s.map.activeBank.entry 0x25#7).action = .absorb) ∧
    let r := withEntry 0x25#7 ⟨0#4, 0#4, 0#4, 0#4, 2#4, 0#4⟩ running
    HearsUpstream r ∧ r.Foreign { writeTo25 with payload := [] } ∧ onlyMapped r { writeTo25 with payload := [] } ∧
    (r.map.activeBank.entry 0x25#7).absorbRuns = true ∧ r.sup.gap ≠ 0#4 ∧ r.run.isOpen = true :=
  ⟨mapped_to_25 (.inl rfl) rfl rfl,
    ⟨withEntry 0x25#7 ⟨0#4, 0#4, 0#4, 0#4, 1#4, 2#4⟩ { station with run := { running.run with cell := 1#4 } },
      hears_upstream (by decide), rfl, mapped_to_25 (.inr rfl) rfl rfl, by decide, by unfold asksTranslation; decide⟩,
    ⟨withEntry 0x25#7 ⟨2#4, 2#4, 0#4, 0#4, 0#4, 0#4⟩ station, hears_upstream (by decide), by unfold named; decide⟩,
    ⟨withEntry 0x25#7 ⟨4#4, 0#4, 0#4, 0#4, 0#4, 0#4⟩ station, hears_upstream (by decide),
      by unfold mappedTo25 named; decide, by decide⟩,
    hears_upstream (by decide), .inr ⟨by decide, by decide⟩,
    ⟨by decide, fun _ => ⟨.inr ⟨rfl, .inr (by decide)⟩, .inr (by decide), .inr (.inl rfl)⟩, fun h => absurd h (by decide)⟩,
    by decide, by decide, rfl⟩

/-- The entries of section 3.8, spur CLOSED: 2Bh stays in its row at column sum 15, 2Ch leaves it at 16 for the own address, and 2Dh
spills to 31h; and the same with the spur OPEN. A REMAP entry of 25h that translates names every kind of frame. With column step -1,
21h stays in its row at column sum 0, and 20h leaves it at -1. -/
theorem witness_RemapEntriesRewriteTheDestination (st : SpurState) :
    let e : EntryDigits := ⟨1#4, 3#4, 1#4, 4#4, 0xD#4, 2#4⟩
    let s := withEntry 0x2B#7 e (withEntry 0x2C#7 e (withEntry 0x2D#7 e (withSpur st station)))
    let w := withEntry 0x25#7 ⟨1#4, 0#4, 1#4, 4#4, 1#4, 2#4⟩ (withSpur st station)
    let b : EntryDigits := ⟨1#4, 3#4, 1#4, 0xF#4, 0xC#4, 0#4⟩
    let v := withEntry 0x20#7 b (withEntry 0x21#7 b (withSpur st station))
    HearsUpstream s ∧
    (∀ a : Addr, a = 0x2B#7 ∨ a = 0x2C#7 ∨ a = 0x2D#7 →
      named (s.map.activeBank.entry a).selector 0x2#4 ∧ (s.map.activeBank.entry a).action = .remap ∧
        s.Foreign ⟨0x2#4, a, 0x00#7, 1#4, [0#4, 1#4]⟩ ∧ onlyMapped s ⟨0x2#4, a, 0x00#7, 1#4, [0#4, 1#4]⟩) ∧
    ((colOf 0x2B#7).toNat : Int) + (s.map.activeBank.entry 0x2B#7).columnStep.toInt = 15 ∧
    ((colOf 0x2C#7).toNat : Int) + (s.map.activeBank.entry 0x2C#7).columnStep.toInt = 16 ∧
    addrOf (rowOf 0x2C#7 ^^^ (s.map.activeBank.entry 0x2C#7).rowModifier.setWidth 4) (BitVec.ofInt 4 16) = s.adr ∧
    addrOf (rowOf 0x2D#7 ^^^ (s.map.activeBank.entry 0x2D#7).rowModifier.setWidth 4) (BitVec.ofInt 4 17) ≠ s.adr ∧
    (s.map.activeBank.entry 0x2D#7).spill = true ∧
    HearsUpstream w ∧ (w.map.activeBank.entry 0x25#7).action = .remap ∧
    asksTranslation (w.map.activeBank.entry 0x25#7) showTo25 ∧
    (∀ f ∈ mappedTo25, w.Foreign f ∧ onlyMapped w f ∧ f.payload.length ≤ 15) ∧
    HearsUpstream v ∧
    (∀ a : Addr, a = 0x20#7 ∨ a = 0x21#7 →
      named (v.map.activeBank.entry a).selector 0x2#4 ∧ (v.map.activeBank.entry a).action = .remap ∧
        v.Foreign ⟨0x2#4, a, 0x00#7, 1#4, [0#4, 1#4]⟩ ∧ onlyMapped v ⟨0x2#4, a, 0x00#7, 1#4, [0#4, 1#4]⟩) ∧
    ((colOf 0x21#7).toNat : Int) + (v.map.activeBank.entry 0x21#7).columnStep.toInt = 0 ∧
    ((colOf 0x20#7).toNat : Int) + (v.map.activeBank.entry 0x20#7).columnStep.toInt = -1 ∧
    addrOf (rowOf 0x20#7 ^^^ (v.map.activeBank.entry 0x20#7).rowModifier.setWidth 4) (BitVec.ofInt 4 (-1)) ≠ v.adr ∧
    (v.map.activeBank.entry 0x20#7).spill = true := by
  cases st <;>
    exact ⟨hears_upstream (by decide),
      fun a h => by
        rcases h with rfl | rfl | rfl <;>
          exact ⟨by unfold named; decide, by decide, .inr ⟨by decide, by decide⟩, by decide,
            fun h => absurd h (by decide), fun h => absurd h (by decide)⟩,
      by decide, by decide, by decide, by decide, by decide, hears_upstream (by decide), by decide,
      by unfold asksTranslation; decide, mapped_to_25 (.inl rfl) rfl rfl, hears_upstream (by decide),
      fun a h => by
        rcases h with rfl | rfl <;>
          exact ⟨by unfold named; decide, by decide, .inr ⟨by decide, by decide⟩, by decide,
            fun h => absurd h (by decide), fun h => absurd h (by decide)⟩,
      by decide, by decide, by decide, by decide⟩

/-- A diverting and a mirroring entry that translate, with the spur CLOSED and OPEN, and the fallback absorbing and not. -/
theorem witness_DivertAndMirrorEntries (st : SpurState) :
    let s := withEntry 0x25#7 ⟨2#4, 0#4, 0#4, 0#4, 9#4, 2#4⟩ (withSpur st station)
    let p := withEntry 0x25#7 ⟨2#4, 0#4, 0#4, 0#4, 1#4, 2#4⟩ (withSpur st station)
    let m := withEntry 0x25#7 ⟨3#4, 0#4, 0#4, 0#4, 1#4, 2#4⟩ (withSpur st station)
    HearsUpstream s ∧ HearsUpstream p ∧ HearsUpstream m ∧
    (∀ f ∈ mappedTo25, (s.Foreign f ∧ onlyMapped s f ∧ f.payload.length ≤ 15) ∧
      (p.Foreign f ∧ onlyMapped p f ∧ f.payload.length ≤ 15) ∧ m.Foreign f ∧ onlyMapped m f ∧ f.payload.length ≤ 15) ∧
    (∀ f ∈ mappedTo25, named (s.map.activeBank.entry 0x25#7).selector f.kind ∧
      named (p.map.activeBank.entry 0x25#7).selector f.kind ∧ named (m.map.activeBank.entry 0x25#7).selector f.kind) ∧
    asksTranslation (m.map.activeBank.entry 0x25#7) showTo25 ∧
    (s.map.activeBank.entry 0x25#7).action = .divert ∧ (s.map.activeBank.entry 0x25#7).fallbackAbsorb = true ∧
    (p.map.activeBank.entry 0x25#7).action = .divert ∧ (p.map.activeBank.entry 0x25#7).fallbackAbsorb = false ∧
    (m.map.activeBank.entry 0x25#7).action = .mirror := by
  cases st <;>
    exact ⟨hears_upstream (by decide), hears_upstream (by decide), hears_upstream (by decide),
      fun f hf => ⟨mapped_to_25 (.inl rfl) rfl rfl f hf, mapped_to_25 (.inl rfl) rfl rfl f hf,
        mapped_to_25 (.inl rfl) rfl rfl f hf⟩,
      by unfold mappedTo25 named; decide, by unfold asksTranslation; decide, by decide, by decide, by decide, by decide,
      by decide⟩

/-- A translating PASS entry and a translating REMAP entry, and payloads of 0, 1, 8, 9 and 15 digits: no attribute, and 0, 7, 8 and
14 symbols. -/
theorem witness_ShowsBecomePatterns :
    let s := withEntry 0x24#7 ⟨0#4, 2#4, 0#4, 0#4, 1#4, 2#4⟩ (withEntry 0x2A#7 ⟨1#4, 0#4, 1#4, 4#4, 1#4, 2#4⟩ station)
    HearsUpstream s ∧ s.Foreign ⟨0x4#4, 0x24#7, 0x00#7, 9#4, []⟩ ∧ s.Foreign ⟨0x4#4, 0x2A#7, 0x00#7, 9#4, []⟩ ∧
    (s.map.activeBank.entry 0x24#7).translate = true ∧ (s.map.activeBank.entry 0x24#7).selector ≠ 1#2 ∧
    (s.map.activeBank.entry 0x24#7).action = .pass ∧
    (s.map.activeBank.entry 0x2A#7).translate = true ∧ (s.map.activeBank.entry 0x2A#7).selector ≠ 1#2 ∧
    (s.map.activeBank.entry 0x2A#7).action = .remap ∧ (s.map.activeBank.entry 0x2A#7).inRange 0x2A#7 = true ∧
    addrOf (rowOf 0x2A#7 ^^^ (s.map.activeBank.entry 0x2A#7).rowModifier.setWidth 4)
      (colOf 0x2A#7 + (s.map.activeBank.entry 0x2A#7).columnStep) = 0x3E#7 ∧
    (List.replicate 7 (0#4 : Digit)).length ≤ 7 ∧ 8 ≤ (List.replicate 8 (0#4 : Digit)).length ∧
    (List.replicate 14 (0#4 : Digit)).length ≤ 14 :=
  ⟨hears_upstream (by decide), .inr ⟨by decide, by decide⟩, .inr ⟨by decide, by decide⟩, by decide, by decide, by decide,
    by decide, by decide, by decide, by decide, by decide, by decide, by decide, by decide⟩

/-- An absorbing entry that passes, with g = 3h, and room in the queue, or none; and, for the second clause, a mirroring one, a broadcast
WRITE, and a WRITE of another cell beside the open run. -/
theorem witness_PlacedWritesOpenRuns (n : Nat) (hn : n = 5 ∨ n = 6) :
    let s := withTransit n (withEntry 0x25#7 ⟨0#4, 0#4, 0#4, 0#4, 2#4, 0#4⟩ { running with run := .closed })
    let m := withTransit n (withEntry 0x25#7 ⟨3#4, 0#4, 0#4, 0#4, 2#4, 0#4⟩ (withSpur .closed running))
    HearsUpstream s ∧ s.Foreign ⟨0x0#4, 0x25#7, 0x00#7, 3#4, [1#4, 7#4]⟩ ∧ s.run = .closed ∧
    (s.map.activeBank.entry 0x25#7).action = .pass ∧ (s.map.activeBank.entry 0x25#7).absorbRuns = true ∧
    s.sup.gap ≠ 0#4 ∧ (s.Room .transit 1 ↔ n = 5) ∧
    HearsUpstream m ∧ m.Foreign writeTo25 ∧ m.run.isOpen = true ∧ outsideTheRun m writeTo25 ∧
    (m.map.activeBank.entry 0x25#7).action = .mirror ∧ (m.map.activeBank.entry 0x25#7).absorbRuns = true ∧
    m.sup.gap ≠ 0#4 ∧ m.Foreign { writeTo25 with dst := Config.broadcast } ∧
    outsideTheRun m { writeTo25 with dst := Config.broadcast } := by
  rcases hn with rfl | rfl <;>
    exact ⟨hears_upstream (by decide), .inr ⟨by decide, by decide⟩, rfl, by decide, by decide, by decide,
      by unfold State.Room; decide, hears_upstream (by decide), .inr ⟨by decide, by decide⟩, rfl,
      .inr ⟨rfl, .inr (by decide)⟩, by decide, by decide, by decide, .inr ⟨by decide, by decide⟩,
      .inr ⟨rfl, .inl (by decide)⟩⟩

/-- A repeat of the open run, with the run's ADJUST still to come and taken; and the first ADJUST of a run under the remapping entry of
section 5.5. -/
theorem witness_RepeatsOfARunAreAbsorbed :
    let s := withEntry 0x25#7 ⟨0#4, 0#4, 0#4, 0#4, 2#4, 0#4⟩ running
    HearsUpstream s ∧ s.run.isOpen = true ∧ s.run.dest = 0x25#7 ∧ s.run.cell = 1#4 ∧ s.run.adjustTaken = false ∧
    s.Foreign ⟨0x0#4, 0x25#7, 0x01#7, 0xB#4, [1#4, 7#4]⟩ ∧ (s.map.activeBank.entry 0x25#7).action = .pass ∧
    HearsUpstream { s with run := { s.run with adjustTaken := true } } ∧
    HearsUpstream running ∧ running.Foreign ⟨0x1#4, 0x25#7, 0x00#7, 4#4, [1#4, 1#4]⟩ ∧ running.run.isOpen = true ∧
    running.run.adjustTaken = false ∧ (running.map.activeBank.entry 0x25#7).action = .remap :=
  ⟨hears_upstream (by decide), rfl, rfl, rfl, rfl, .inr ⟨by decide, by decide⟩, by decide, hears_upstream (by decide),
    hears_upstream (by decide), .inr ⟨by decide, by decide⟩, rfl, rfl, by decide⟩

/-- A POLL of no digits and one of 12, lines 4 and 5 CAUGHT, with room in the queue and without; and entries that divert, mirror and
absorb, the spur CLOSED and OPEN. -/
theorem witness_BroadcastPollsCarryRecords (st : SpurState) :
    let s := withLine 4 .catching 2#4 caughtOnce (withLine 5 .catching 2#4 caughtOnce station)
    let d := withEntry 0x7F#7 ⟨2#4, 0#4, 0#4, 0#4, 8#4, 0#4⟩ (withSpur st s)
    let m := withEntry 0x7F#7 ⟨3#4, 0#4, 0#4, 0#4, 0#4, 0#4⟩ (withSpur st s)
    let a := withEntry 0x7F#7 ⟨4#4, 0#4, 0#4, 0#4, 0#4, 0#4⟩ (withSpur st s)
    HearsUpstream s ∧ s.adr ≠ Config.broadcast ∧
    (List.replicate 0 (0#4 : Digit)).length ∈ [0, 4, 8, 12] ∧ (List.replicate 12 (0#4 : Digit)).length ∈ [0, 4, 8, 12] ∧
    (s.map.activeBank.entry Config.broadcast).action = .pass ∧ s.Room .transit 1 ∧
    ¬(withTransit 6 s).Room .transit 1 ∧
    ((List.finRange 13).filter fun l => (s.line.catchOf l).state = .caught).take ((15 - 0) / 4) = [4, 5] ∧
    ((List.finRange 13).filter fun l => (s.line.catchOf l).state = .caught).take ((15 - 12) / 4) = [] ∧
    (HearsUpstream d ∧ (d.map.activeBank.entry Config.broadcast).action = .divert ∧
      (d.map.activeBank.entry Config.broadcast).fallbackAbsorb = true ∧
      named (d.map.activeBank.entry Config.broadcast).selector 0x6#4 ∧ d.spur.state = st) ∧
    (HearsUpstream m ∧ (m.map.activeBank.entry Config.broadcast).action = .mirror ∧
      named (m.map.activeBank.entry Config.broadcast).selector 0x6#4) ∧
    HearsUpstream a ∧ (a.map.activeBank.entry Config.broadcast).action = .absorb ∧
    named (a.map.activeBank.entry Config.broadcast).selector 0x6#4 := by
  cases st <;>
    exact ⟨hears_upstream (by decide), by decide, by decide, by decide, by decide, (by decide : 0 + 1 ≤ 6),
      (by decide : ¬6 + 1 ≤ 6), by decide, by decide,
      ⟨hears_upstream (by decide), by decide, by decide, by unfold named; decide, rfl⟩,
      ⟨hears_upstream (by decide), by decide, by unfold named; decide⟩, hears_upstream (by decide), by decide,
      by unfold named; decide⟩

/-- TRACEs of 1 and 13 digits. -/
theorem witness_TracesCarryTheHopRecord :
    HearsUpstream cabinet ∧ cabinet.adr ≠ Config.broadcast ∧
    (Frame.mk 0xA#4 0x7F#7 0x00#7 1#4 [0#4]).payload.length ∈ [1, 5, 9, 13] ∧
    (Frame.mk 0xA#4 0x7F#7 0x00#7 1#4 (List.replicate 13 0#4)).payload.length ∈ [1, 5, 9, 13] ∧
    (cabinet.map.activeBank.entry 0x7F#7).action = .pass :=
  ⟨hears_upstream (by decide), by decide, by decide, by decide, by decide⟩

/-- Room in the queue and none; entries that divert, mirror and absorb, the spur CLOSED and OPEN, with the queues empty and both
full; with g = 3h an ADJUST and no run, a WRITE and an ADJUST that close a run of another key, and a WRITE of no cell. -/
theorem witness_BroadcastWritesReachTheLatches (st : SpurState) :
    let d := withEntry 0x7F#7 ⟨2#4, 0#4, 0#4, 0#4, 8#4, 0#4⟩ (withSpur st station)
    let m := withEntry 0x7F#7 ⟨3#4, 0#4, 0#4, 0#4, 0#4, 0#4⟩ (withSpur st station)
    let a := withEntry 0x7F#7 ⟨4#4, 0#4, 0#4, 0#4, 0#4, 0#4⟩ (withSpur st station)
    let full := withTransit 6 { m with spur := { m.spur with queue := List.replicate 4 other } }
    let g := { running with run := .closed }
    HearsUpstream station ∧ station.adr ≠ Config.broadcast ∧ outsideTheRun station { writeTo25 with dst := Config.broadcast } ∧
    station.sup.gap = 0#4 ∧ (station.map.activeBank.entry Config.broadcast).action = .pass ∧ station.Room .transit 1 ∧
    ¬(withTransit 6 station).Room .transit 1 ∧
    (HearsUpstream d ∧ (d.map.activeBank.entry Config.broadcast).action = .divert ∧
      named (d.map.activeBank.entry Config.broadcast).selector 0x0#4 ∧ d.Room .spurOut 1 ∧
      (d.map.activeBank.entry Config.broadcast).fallbackAbsorb = true) ∧
    (HearsUpstream m ∧ (m.map.activeBank.entry Config.broadcast).action = .mirror ∧
      named (m.map.activeBank.entry Config.broadcast).selector 0x1#4 ∧ m.Room .transit 1) ∧
    (HearsUpstream full ∧ ¬full.Room .transit 1 ∧ ¬full.Room .spurOut 1) ∧
    (HearsUpstream a ∧ (a.map.activeBank.entry Config.broadcast).action = .absorb) ∧
    (HearsUpstream g ∧ g.sup.gap ≠ 0#4 ∧ outsideTheRun g { adjustTo25 with dst := Config.broadcast }) ∧
    HearsUpstream running ∧ running.run.isOpen = true ∧ outsideTheRun running { writeTo25 with dst := Config.broadcast } ∧
    (running.map.activeBank.entry Config.broadcast).absorbRuns = false ∧
    outsideTheRun running { adjustTo25 with dst := Config.broadcast } ∧
    outsideTheRun running { writeTo25 with dst := Config.broadcast, payload := [] } := by
  cases st <;>
    exact ⟨hears_upstream (by decide), by decide, .inl rfl, rfl, by decide, (by decide : 0 + 1 ≤ 6), (by decide : ¬6 + 1 ≤ 6),
      ⟨hears_upstream (by decide), by decide, by unfold named; decide, (by decide : 0 + 1 ≤ 4), by decide⟩,
      ⟨hears_upstream (by decide), by decide, by unfold named; decide, (by decide : 0 + 1 ≤ 6)⟩,
      ⟨hears_upstream (by decide), (by decide : ¬6 + 1 ≤ 6), (by decide : ¬4 + 1 ≤ 4)⟩,
      ⟨hears_upstream (by decide), by decide⟩, ⟨hears_upstream (by decide), by decide, .inl rfl⟩,
      hears_upstream (by decide), rfl, .inr ⟨rfl, .inl (by decide)⟩, by decide, .inr ⟨rfl, .inl (by decide)⟩,
      .inr ⟨rfl, .inl (by decide)⟩⟩

/-- A WRITE of cell 2h, which is a latch, and one of cells 2h and 3h, of which the second is not. -/
theorem witness_OwnWritesAndAdjustsReachTheLatches :
    station.Delivers controller ∧ (∀ j, j < [5#4].length → ((2#4 : Digit) + BitVec.ofNat 4 j).toNat ≤ 2) ∧
    ∃ j, j < [5#4, 6#4].length ∧ 2 < ((2#4 : Digit) + BitVec.ofNat 4 j).toNat :=
  ⟨station_manages.1, by decide, 1, by decide, by decide⟩

/-- One REPLY held and two held; cells Ch, which is present, and Dh, which is absent. -/
theorem witness_OwnReadIsAnsweredOrRefused :
    lights.Delivers controller ∧ lights.inserted .reply = 1 ∧
    ({ lights with merge := { lights.merge with insertion := [heldReply, heldReply] } } : State).inserted .reply = 2 ∧
    ({ lights with merge := { lights.merge with insertion := [heldReply, heldReply] } } : State).Delivers controller ∧
    (∀ j, j < (1#4 : Digit).toNat → ¬absentCell (0xC#4 + BitVec.ofNat 4 j)) ∧ absentCell 0xD#4 :=
  ⟨(manages_controller (by decide)).1, by decide, by decide, (manages_controller (by decide)).1,
    by unfold absentCell; decide, by unfold absentCell; decide⟩

/-- The entry of section 3.8, loaded at 2Ah alone, and from 2Ah to 2Fh. -/
theorem witness_LoadsStoreStagedEntries :
    station.Manages controller ∧ BanksCanonical station ∧ entryInRange ⟨1#4, 3#4, 1#4, 4#4, 0xD#4, 2#4⟩ ∧
    entryInRange ⟨4#4, 3#4, 7#4, 0xF#4, 0xF#4, 0xF#4⟩ ∧ (0xA#4 : Digit).toNat ≤ (0xA#4 : Digit).toNat :=
  ⟨station_manages, ⟨by decide, by decide⟩, ⟨by decide, by decide, by decide⟩, ⟨by decide, by decide, by decide⟩, by decide⟩

/-- Five patterns at the end of page 7. -/
theorem witness_LoadPatternsWritesOnePage :
    station.Manages controller ∧ BanksCanonical station ∧ (7#4 : Digit).toNat ≤ 7 ∧
    (List.replicate 5 (1#8 : Pattern)).length ≤ 5 ∧
    16 * (1#4 : Digit).toNat + (0xB#4 : Digit).toNat + (List.replicate 5 (1#8 : Pattern)).length ≤ 32 :=
  ⟨station_manages, ⟨by decide, by decide⟩, by decide, by decide, by decide⟩

theorem witness_CopyActiveCopiesTheActiveBank : station.Manages controller := station_manages

/-- A COMMIT that passes at once, one that fails, and one that waits for the upstream frame. -/
theorem witness_CommitValidatesAndSwaps :
    (station.Manages controller ∧ station.map.stagingBank.firstFault station.adr station.spur.state = none) ∧
    (∃ s : State, s.Manages controller ∧
      s.map.stagingBank.firstFault s.adr s.spur.state = some (2#4, 0x12#7)) ∧
    (∃ s : State, s.Manages maintenance ∧ s.map.stagingBank.firstFault s.adr s.spur.state = none ∧
      s.upRx.state = .assemble ∧ s.sup.up = .live) :=
  ⟨⟨station_manages, by decide⟩,
    ⟨{ station with map := { station.map with
        bankB := Bank.reset.setEntry 0x12#7 (storedForm ⟨2#4, 0#4, 0#4, 0#4, 8#4, 0#4⟩) } },
      manages_controller (by decide), by decide⟩,
    ⟨{ withSpur .closed station with upRx := { state := .assemble, buffer := [] } }, manages_maintenance (by decide),
      by decide, rfl, rfl⟩⟩

/-- A COMMIT pending on the frame under assembly upstream, which END or an IDLE completes, or a digit after its 24th; a frame under
assembly from the spur beside it; the swap due; and a run gap due. -/
theorem witness_SwapAndRunGapExpiryTakeEffectWhenDue :
    (∀ n, n = 0 ∨ n = 24 → (awaiting n).Quiet ∧ (awaiting n).mgmt.commit.isSome = true ∧
      (awaiting n).mgmt.reply = .reserved ∧ (awaiting n).sup.up = .live ∧
      (awaiting n).upRx = { state := .assemble, buffer := List.replicate n 0#4 }) ∧
    (∀ d, classOf unitEnd ≠ .data d) ∧ (∀ d, classOf unitIdle ≠ .data d) ∧ 24 ≤ (List.replicate 24 (0#4 : Digit)).length ∧
    (∃ s : State, s.Quiet ∧ s.mgmt.commit.isSome = true ∧ s.mgmt.reply = .reserved ∧
      s.spurRx = { state := .assemble, buffer := [1#4] }) ∧
    MalformedFrame .truncated [] ∧ (awaiting 0).upRx.state = .assemble ∧
    (∃ s : State, s.resetLow = false ∧ Due.swap ∈ s.due ∧ s.mgmt.commit = some (0x41#7, 7#4)) ∧
    (∃ s : State, s.resetLow = false ∧ Due.runGapExpiry ∈ s.due ∧ s.run.isOpen = true) ∧
    station.resetLow = false ∧ Due.swap ∉ station.due ∧ Due.runGapExpiry ∉ station.due :=
  ⟨fun _ _ => ⟨⟨rfl, rfl⟩, rfl, rfl, rfl, rfl⟩, by decide, by decide, by decide,
    ⟨{ awaiting 0 with spurRx := { state := .assemble, buffer := [1#4] } }, ⟨rfl, rfl⟩, rfl, rfl, rfl⟩,
    .inl (by decide), rfl, ⟨{ awaiting 0 with due := [.swap] }, rfl, by decide, rfl⟩,
    ⟨{ running with due := [.runGapExpiry] }, rfl, by decide, rfl⟩, rfl, by decide, by decide⟩

/-- The last six patterns of a page, of either bank. -/
theorem witness_ReadsAreAnsweredAndChangeNothing :
    station.Manages controller ∧ (1#4 : Digit).toNat ≤ 1 ∧ (7#4 : Digit).toNat ≤ 7 ∧
    16 * (1#4 : Digit).toNat + (0xA#4 : Digit).toNat + (6#4 : Digit).toNat ≤ 32 :=
  ⟨station_manages, by decide, by decide, by decide⟩

theorem witness_ClearClearsWhatItSelects : station.Manages controller := station_manages

theorem station_catches : CatchLaw station := ⟨by decide, by decide⟩

theorem reporting_catches : CatchLaw reporting := ⟨by decide, by decide⟩

/-- Lines in NONE, and in REPORTING. -/
theorem witness_SetLineSetsOneLine :
    (station.Manages controller ∧ CatchLaw station ∧ (station.line.catchOf (pinLine 0)).state = .none) ∧
    reporting.Manages controller ∧ CatchLaw reporting ∧ (reporting.line.catchOf (pinLine 4)).state = .reporting :=
  ⟨⟨station_manages, station_catches, by decide⟩, manages_controller (by decide), reporting_catches, by decide⟩

/-- A CAUGHT line, and a change of the report address with an unreported state. -/
theorem witness_SetReportingSetsAndReports :
    let s := withLine 4 .catching 1#4 caughtOnce { station with sup := { station.sup with lastUp := .silent } }
    s.Manages controller ∧ addrOf 4#4 5#4 ≠ s.adr ∧ addrOf 4#4 5#4 ≠ Config.broadcast ∧
    addrOf 4#4 5#4 ≠ s.line.reportAddr ∧ s.inserted .event = 0 ∧ s.inserted .breakReport = 0 ∧ s.unreported = true ∧
    (List.finRange 13).filter (fun l => (s.line.catchOf l).state = .caught) = [4] :=
  ⟨manages_controller (by decide), by decide, by decide, by decide, by decide, by decide, by decide, by decide⟩

theorem witness_SetSpurEnableEnablesOrSetsTheWatchTime :
    (station.Manages controller ∧ station.spur.state = .disabled) ∧
    (withSpur .opened station).Manages controller ∧ (withSpur .opened station).spur.state ≠ .disabled :=
  ⟨⟨station_manages, rfl⟩, manages_controller (by decide), by decide⟩

/-- No entry of a bank at its reset values uses the spur. -/
theorem station_spares_the_spur {a : Addr} : ¬usesTheSpur (Bank.reset.entry a) := by
  rintro (h | h | h) <;> simp [Bank.reset, Bank.entry, Store.read, Entry.zero] at h

/-- A DISABLED spur, one in use by the lowest diverting entry 28h, one not in use whose queue holds a report in EVENT mode, and one
not in use whose queue is empty. -/
theorem witness_SetSpurDisableDiscardsOrIsRefused :
    (station.Manages controller ∧ station.spur.state = .disabled) ∧
    (∃ s : State, s.Manages controller ∧ s.spur.state ≠ .disabled ∧ usesTheSpur (s.map.activeBank.entry 0x28#7) ∧
      ∀ c, c < 0x28#7 → c ≠ s.adr → ¬usesTheSpur (s.map.activeBank.entry c)) ∧
    (∃ s : State, s.Manages controller ∧ s.spur.state ≠ .disabled ∧ ReportingLaw s ∧ s.line.reportMode = .event ∧
      s.spur.queue = [pollOfLine4] ∧ ∀ a, a ≠ s.adr → ¬usesTheSpur (s.map.activeBank.entry a)) ∧
    (withSpur .closed station).Manages controller ∧ (withSpur .closed station).spur.state ≠ .disabled ∧
    ∀ a, a ≠ (withSpur .closed station).adr → ¬usesTheSpur ((withSpur .closed station).map.activeBank.entry a) := by
  refine ⟨⟨station_manages, rfl⟩,
    ⟨withEntry 0x28#7 ⟨2#4, 0#4, 0#4, 0#4, 8#4, 0#4⟩ (withSpur .closed station), manages_controller (by decide),
      by decide, .inl (by decide), ?_⟩,
    ⟨{ reporting with
        line := { reporting.line with reportMode := .event }
        spur := { reporting.spur with state := .closed, queue := [pollOfLine4] }
        merge := { reporting.merge with transit := [] } },
      manages_controller (by decide), by decide, ⟨by decide, by decide, fun _ h => nomatch h⟩, rfl, rfl,
      fun _ _ => station_spares_the_spur⟩,
    manages_controller (by decide), by decide, fun _ _ => station_spares_the_spur⟩
  · intro c hc _
    have : c.toNat ≠ 0x28 := by have := BitVec.lt_def.mp hc; simp at this; omega
    have he : (withEntry 0x28#7 ⟨2#4, 0#4, 0#4, 0#4, 8#4, 0#4⟩ (withSpur .closed station)).map.activeBank.entry c =
        Entry.zero := by
      show Store.read Entry.zero [(0x28, _)] c.toNat = _
      simp [Store.read, this]
    rw [he]; rintro (h | h | h) <;> simp [Entry.zero] at h

/-- Every setting at the ends of its range. -/
theorem witness_SetOptionsAndSetManagerSetTheirFields :
    station.Manages controller ∧ (1#4 : Digit).toNat ≤ 1 ∧ (0xF#4 : Digit) ≠ 0#4 ∧ addrOf 7#4 0xE#4 ≠ station.adr ∧
    addrOf 7#4 0xE#4 ≠ Config.broadcast :=
  ⟨station_manages, by decide, by decide, by decide, by decide⟩

/-- A slot that is FULL, a record of the same source and sequence digit, and a list that does not hold the source; and a slot RESERVED
for a pending commit, with a STATUS from the spur, and one from upstream whose END ends the wait. -/
theorem witness_DroppedReplayedAndDeniedCommands :
    let full := { station with mgmt := { station.mgmt with reply := .full [] } }
    let recorded := { station with mgmt := { station.mgmt with last := some ⟨0x00#7, 1#4, 8#4, [8#4, 0#4]⟩ } }
    let closed := { station with mgmt := { station.mgmt with manager0 := some 0x41#7 } }
    let waiting := { awaiting 0 with
      upRx := { state := .assemble, buffer := Frame.digits ⟨0x8#4, 0x30#7, controller.src, controller.seq, [8#4]⟩ } }
    (full.Delivers controller ∧ full.mgmt.reply ≠ .free) ∧
    (recorded.Delivers controller ∧ recorded.mgmt.reply = .free ∧
      recorded.mgmt.last = some ⟨controller.src, controller.seq, 8#4, [8#4, 0#4]⟩) ∧
    (closed.Delivers controller ∧ closed.mgmt.reply = .free ∧ closed.mgmt.last = none ∧ closed.mgmt.manager0 ≠ none ∧
      closed.mgmt.manager0 ≠ some controller.src ∧ closed.mgmt.manager1 ≠ some controller.src) ∧
    waiting.Quiet ∧ waiting.mgmt.reply = .reserved ∧ waiting.mgmt.commit.isSome = true ∧
    (waiting.Owned maintenance ∧ maintenance.port = .spur ∧ waiting.spurRx.state ≠ .assemble ∧
      waiting.spur.state = .closed) ∧
    waiting.Owned controller ∧ waiting.sup.up = .live ∧
    waiting.upRx =
      { state := .assemble, buffer := (Frame.mk 0x8#4 waiting.adr controller.src controller.seq [8#4]).digits } :=
  ⟨⟨⟨⟨rfl, rfl⟩, ⟨by decide, rfl, rfl⟩, by decide, by decide⟩, fun h => nomatch h⟩,
    ⟨⟨⟨rfl, rfl⟩, ⟨by decide, rfl, rfl⟩, by decide, by decide⟩, rfl, rfl⟩,
    ⟨⟨⟨rfl, rfl⟩, ⟨by decide, rfl, rfl⟩, by decide, by decide⟩, rfl, rfl, by decide, by decide, by decide⟩,
    ⟨rfl, rfl⟩, rfl, rfl, ⟨⟨by decide, by decide⟩, rfl, by decide, rfl⟩, ⟨by decide, by decide⟩, rfl, rfl⟩

/-- A STATUS with an argument, a LOAD PATTERNS of count 1 with no pattern, a CLEAR of selection 4h, and a LOAD PATTERNS of count 6. -/
theorem witness_WrongCommandsAreAnsweredAndChangeNothing :
    station.Manages controller ∧ wrongLength 8#4 [0#4] ∧ wrongLength 3#4 [0#4, 0#4, 0#4, 1#4] ∧
    (¬wrongLength 0xA#4 [4#4] ∧ outOfRange station.adr 0xA#4 [4#4]) ∧
    (¬wrongLength 3#4 [0#4, 0#4, 0#4, 6#4] ∧ outOfRange station.adr 3#4 [0#4, 0#4, 0#4, 6#4]) :=
  ⟨station_manages, by unfold wrongLength commandLength; decide, by unfold wrongLength commandLength; decide,
    ⟨by unfold wrongLength commandLength; decide, (by decide : 3 < 4)⟩,
    by unfold wrongLength commandLength; decide, .inr (.inl (by decide))⟩

/-- A FULL reply; a queue behind the pointer; nothing to send; and a transmitter that is READY already. -/
theorem witness_ReadyTransmitterIsGranted :
    (∃ s : State, s.Quiet ∧ s.merge.tx = .fill 1 ∧ s.mgmt.reply = .full []) ∧
    (∃ s : State, s.Quiet ∧ s.merge.tx = .fill 1 ∧ (∀ ds, s.mgmt.reply ≠ .full ds) ∧ s.merge.pointer = 1 ∧
      queueAt s 0 ≠ [] ∧ ∀ j : Fin 4, (j - s.merge.pointer).val < (0 - s.merge.pointer : Fin 4).val →
        j = 2 ∨ queueAt s j = []) ∧
    (∃ s : State, s.Quiet ∧ s.merge.tx = .fill 1 ∧ s.merge.pointer = 2 ∧ queueAt s 3 ≠ [] ∧
      ∀ j : Fin 4, (j - s.merge.pointer).val < (3 - s.merge.pointer : Fin 4).val → queueAt s j = []) ∧
    (station.Quiet ∧ station.merge.tx = .fill 0 ∧ (∀ ds, station.mgmt.reply ≠ .full ds) ∧
      ∀ i : Fin 4, queueAt station i = []) ∧
    ∃ s : State, s.Quiet ∧ ∀ k, s.merge.tx ≠ .fill k :=
  ⟨⟨{ station with merge := { station.merge with tx := .fill 1 }, mgmt := { station.mgmt with reply := .full [] } },
      ⟨rfl, rfl⟩, rfl, rfl⟩,
    ⟨{ station with merge := { station.merge with tx := .fill 1, transit := [other], pointer := 1 } }, ⟨rfl, rfl⟩, rfl,
      fun _ h => (nomatch h), rfl, by decide, by decide⟩,
    ⟨{ station with merge := { station.merge with tx := .fill 1, insertion := [heldBreak], pointer := 2 } },
      ⟨rfl, rfl⟩, rfl, rfl, by decide, by decide⟩,
    ⟨⟨rfl, rfl⟩, rfl, fun _ h => (nomatch h), by decide⟩,
    ⟨{ station with merge := { station.merge with tx := .ready } }, ⟨rfl, rfl⟩, fun _ h => nomatch h⟩⟩

/-- Frames in transmission with no tag, with a report tag in report mode POLL and, one edge caught since, in mode EVENT, with a report
tag on an EVENT, and with a condition tag; and no frame in transmission. -/
theorem witness_DownstreamDeparturesNotify :
    (∃ s : State, s.Quiet ∧ s.merge.tx = .send .reply 5 ∧ s.framesOf .reply = [{ digits := [], tag := .none }]) ∧
    (∃ s : State, s.Quiet ∧ s.merge.tx = .send .spurReturn 5 ∧ s.framesOf .spurReturn = [other] ∧ other.tag = .none) ∧
    (∃ s : State, s.Quiet ∧ s.merge.tx = .send .transit 5 ∧ s.framesOf .transit = [pollOfLine4] ∧
      pollOfLine4.tag = .report [4] ∧ [(4 : Fin 13)].Nodup ∧ s.line.reportMode = .poll) ∧
    (∃ s : State, s.Quiet ∧ s.merge.tx = .send .transit 5 ∧ s.framesOf .transit = [pollOfLine4] ∧
      s.line.reportMode = .event ∧ (s.line.catchOf 4).n ≠ 0#4) ∧
    (∃ s : State, s.Quiet ∧ s.merge.tx = .send .insertion 5 ∧ s.framesOf .insertion = [heldEvent] ∧
      heldEvent.kind = .event ∧ heldEvent.tag = .report [4] ∧ s.line.reportMode = .event) ∧
    (∃ s : State, s.Quiet ∧ s.merge.tx = .send .insertion 5 ∧ s.framesOf .insertion = [heldBreak] ∧
      heldBreak.tag = .condition { oldUp := .live, oldSpur := .closed, newUp := .silent, newSpur := .closed }) ∧
    station.Quiet ∧ ∀ src k, station.merge.tx ≠ .send src k :=
  ⟨⟨{ station with merge := { station.merge with tx := .send .reply 5 }, mgmt := { station.mgmt with reply := .sending [] } },
      ⟨rfl, rfl⟩, rfl, rfl⟩,
    ⟨{ withSpur .closed station with merge := { station.merge with tx := .send .spurReturn 5, spurReturn := [other] } },
      ⟨rfl, rfl⟩, rfl, rfl, rfl⟩,
    ⟨{ reporting with merge := { reporting.merge with tx := .send .transit 5 } }, ⟨rfl, rfl⟩, rfl, rfl, rfl, by decide, rfl⟩,
    ⟨{ reporting with
        merge := { reporting.merge with tx := .send .transit 5 }, line := { reporting.line with reportMode := .event } },
      ⟨rfl, rfl⟩, rfl, rfl, rfl, by decide⟩,
    ⟨{ reporting with
        merge := { reporting.merge with tx := .send .insertion 5, transit := [], insertion := [heldEvent] }
        line := { reporting.line with reportMode := .event } },
      ⟨rfl, rfl⟩, rfl, rfl, by decide, rfl, rfl⟩,
    ⟨{ cabinet with merge := { cabinet.merge with tx := .send .insertion 5, insertion := [heldBreak] } }, ⟨rfl, rfl⟩, rfl,
      rfl, rfl⟩, ⟨rfl, rfl⟩, fun _ _ h => nomatch h⟩

/-- A spur transmitter in FILL with a frame and without, one in SEND, with and without a report, in both report modes, and one that
is READY. -/
theorem witness_SpurTransmitterSendsItsQueue :
    (∃ s : State, s.Quiet ∧ s.spur.tx = .fill 1 ∧ s.spur.state = .closed ∧ s.spur.queue = [other]) ∧
    (station.Quiet ∧ station.spur.tx = .fill 0 ∧ station.spur.state = .disabled) ∧
    (∃ s : State, s.Quiet ∧ s.spur.tx = .send .spurOut 5 ∧ s.spur.queue = [other, pollOfLine4] ∧ other.tag = .none) ∧
    (∃ s : State, s.Quiet ∧ s.spur.tx = .send .spurOut 5 ∧ s.spur.queue = [pollOfLine4] ∧
      pollOfLine4.tag = .report [4] ∧ s.line.reportMode = .poll) ∧
    (∃ s : State, s.Quiet ∧ s.spur.tx = .send .spurOut 5 ∧ s.spur.queue = [pollOfLine4] ∧ s.line.reportMode = .event ∧
      (s.line.catchOf 4).n ≠ 0#4) ∧
    ∃ s : State, s.Quiet ∧ (∀ k, s.spur.tx ≠ .fill k) ∧ ∀ src k, s.spur.tx ≠ .send src k :=
  ⟨⟨{ withSpur .closed station with
        spur := { (withSpur .closed station).spur with tx := .fill 1, queue := [other] } }, ⟨rfl, rfl⟩, rfl, rfl, rfl⟩,
    ⟨⟨rfl, rfl⟩, rfl, rfl⟩,
    ⟨{ withSpur .closed station with
        spur := { (withSpur .closed station).spur with tx := .send .spurOut 5, queue := [other, pollOfLine4] } },
      ⟨rfl, rfl⟩, rfl, rfl, rfl⟩,
    ⟨{ withSpur .closed station with
        spur := { (withSpur .closed station).spur with tx := .send .spurOut 5, queue := [pollOfLine4] } },
      ⟨rfl, rfl⟩, rfl, rfl, rfl, rfl⟩,
    ⟨{ withSpur .closed reporting with
        merge := { reporting.merge with transit := [] }, line := { reporting.line with reportMode := .event }
        spur := { (withSpur .closed station).spur with tx := .send .spurOut 5, queue := [pollOfLine4] } },
      ⟨rfl, rfl⟩, rfl, rfl, rfl, by decide⟩,
    ⟨{ station with spur := { station.spur with tx := .ready } }, ⟨rfl, rfl⟩, fun _ h => (nomatch h),
      fun _ _ h => nomatch h⟩⟩

theorem witness_ServiceTickRaisesTheCounts : station.Quiet := ⟨rfl, rfl⟩

/-- With a frame under assembly and without, with a commit pending and without, with a BREAK to build and with one held; with no latch
set, which gives the pseudo-line an edge, and with one set. -/
theorem witness_UpstreamSilenceTruncatesClosesAndSwaps :
    (∃ s : State, s.resetLow = false ∧ Due.upstreamSilence ∈ s.due ∧ s.sup.up = .live ∧ s.upRx.state = .assemble ∧
      s.mgmt.commit = some (0x41#7, 7#4) ∧ s.inserted .breakReport = 0 ∧ s.line.reportAddr ≠ s.adr ∧
      latchEdges s = [pseudoLine]) ∧
    ∃ s : State, s.resetLow = false ∧ Due.upstreamSilence ∈ s.due ∧ s.sup.up = .live ∧ s.upRx.state ≠ .assemble ∧
      s.mgmt.commit = none ∧ s.inserted .breakReport = 1 ∧ latchEdges s = [] :=
  ⟨⟨{ cabinet with
        due := [.upstreamSilence], upRx := { state := .assemble, buffer := [1#4] }
        mgmt := { cabinet.mgmt with reply := .reserved, commit := some (0x41#7, 7#4) }
        sup := { cabinet.sup with latches := 0#8 } },
      rfl, by decide, rfl, rfl, rfl, by decide, by decide, by decide⟩,
    ⟨{ cabinet with
        due := [.upstreamSilence], merge := { cabinet.merge with insertion := [heldBreak] }
        sup := { cabinet.sup with latches := 1#8 } },
      rfl, by decide, rfl, by decide, rfl, by decide, by decide⟩⟩

/-- With a frame under assembly from the spur and without; with no latch set and with one set. -/
theorem witness_SpurWatchExpiryOpensTheSpur :
    (∃ s : State, s.resetLow = false ∧ Due.spurWatchExpiry ∈ s.due ∧ s.spur.state = .closed ∧
      s.spurRx.state = .assemble ∧ s.sup.lastSpur ≠ .opened ∧ latchEdges s = [pseudoLine]) ∧
    ∃ s : State, s.resetLow = false ∧ Due.spurWatchExpiry ∈ s.due ∧ s.spur.state = .closed ∧ s.spurRx.state ≠ .assemble ∧
      latchEdges s = [] :=
  ⟨⟨{ cabinet with
        due := [.spurWatchExpiry], spurRx := { state := .assemble, buffer := [1#4] }
        sup := { cabinet.sup with latches := 0#8 } }, rfl, by decide, rfl, rfl, by decide, by decide⟩,
    ⟨{ cabinet with due := [.spurWatchExpiry], sup := { cabinet.sup with latches := 1#8 } }, rfl, by decide, rfl,
      by decide, by decide⟩⟩

/-- Each restore that is due, in the state that it leaves and in another; and an intact frame from a SILENT upstream side and from an
OPEN spur. -/
theorem witness_RestoresAreCountedAndReported :
    (∃ s : State, s.Quiet ∧ s.upRx.state ≠ .assemble ∧ s.sup.up = .silent) ∧
    (∃ s : State, s.Quiet ∧ s.spurRx.state ≠ .assemble ∧ s.spur.state = .opened) ∧
    (List.replicate 15 (0#4 : Digit)).length ≤ 15 ∧
    (∃ s : State, s.resetLow = false ∧ Due.upstreamRestore ∈ s.due ∧ s.sup.up = .silent) ∧
    (∃ s : State, s.resetLow = false ∧ Due.spurRestore ∈ s.due ∧ s.spur.state = .opened) ∧
    ∃ s : State, s.resetLow = false ∧ Due.upstreamRestore ∈ s.due ∧ Due.spurRestore ∈ s.due ∧ s.sup.up = .live ∧
      s.spur.state ≠ .opened :=
  ⟨⟨{ cabinet with sup := { cabinet.sup with up := .silent } }, ⟨rfl, rfl⟩, by decide, rfl⟩,
    ⟨withSpur .opened station, ⟨rfl, rfl⟩, by decide, rfl⟩, by decide,
    ⟨{ cabinet with due := [.upstreamRestore], sup := { cabinet.sup with up := .silent } }, rfl, by decide, rfl⟩,
    ⟨{ withSpur .opened station with due := [.spurRestore] }, rfl, by decide, rfl⟩,
    ⟨{ cabinet with due := [.upstreamRestore, .spurRestore] }, rfl, by decide, by decide, rfl, by decide⟩⟩

/-- In POLL mode and in EVENT mode, line 4 ARMED with an edge at its second low sample, hold 2; line 5 of hold 3 not yet; lines 4
and 6 together, beside a CAUGHT line 8. -/
theorem witness_SamplesQualifyTheLines (m : ReportMode) :
    let s := withLine 4 .catching 2#4 armed (withLine 5 .catching 3#4 armed station)
    let t := after (.lineSample 0xFCF#12) s
    let u := { t with line := { t.line with reportMode := m } }
    u.Quiet ∧ u.line.reportMode = m ∧ u.adr ≠ Config.broadcast ∧ u.line.reportAddr ≠ u.adr ∧ u.inserted .event = 0 ∧
    edgeSeen u.line.lines[(4 : Fin 12)] (levelAt u 0xFCF#12 4) ∧
    ¬edgeSeen u.line.lines[(5 : Fin 12)] (levelAt u 0xFCF#12 5) ∧
    (u.line.catchOf (pinLine 4)).state = .armed ∧ (u.line.lines[(0 : Fin 12)]).mode = .input ∧
    let v := withLine 4 .catching 1#4 armed (withLine 6 .catching 1#4 armed (withLine 8 .catching 1#4 caughtOnce u))
    v.Quiet ∧ edgesSeen v 0xFAF#12 = [pinLine 4, pinLine 6] ∧ (v.line.catchOf (pinLine 8)).state = .caught := by
  cases m <;>
    exact ⟨⟨by decide, by decide⟩, rfl, by decide, by decide, by decide, by unfold edgeSeen levelAt; decide,
      by unfold edgeSeen levelAt; decide, by decide, by decide, ⟨by decide, by decide⟩, by decide, by decide⟩

/-! ### The laws: each holds in a state from which a step leads on -/

/-- A step from a state with a command in front. -/
theorem reporting_steps : ∃ t, step { reporting with pending := [.serviceTick] } = .next t := ⟨_, rfl⟩

theorem witness_CapacitiesAndCountsStayInRange :
    StoresBounded reporting ∧ CountsInRange reporting ∧ RunLaw running ∧ running.run.isOpen = true ∧
    ∃ t, step { reporting with pending := [.serviceTick] } = .next t :=
  ⟨⟨by decide, by decide, by decide, by decide, by decide, by decide, fun _ h => nomatch h⟩,
    ⟨by decide, by decide, by decide, by decide, by decide, by decide, by decide⟩, fun _ => rfl, rfl, reporting_steps⟩

theorem witness_HeldFramesStaySendable :
    FramesSendable reporting ∧ reporting.framesOf .transit ≠ [] ∧
    ∃ t, step { reporting with pending := [.serviceTick] } = .next t := by
  refine ⟨⟨fun src h hm => ?_, fun _ h => nomatch h⟩, by decide, reporting_steps⟩
  cases src with
  | transit =>
    have : h = pollOfLine4 := by simpa [State.framesOf, reporting] using hm
    subst this
    exact ⟨by decide, by decide, by decide, by decide, by decide⟩
  | spurReturn => exact nomatch hm
  | insertion => exact nomatch hm
  | reply => exact nomatch hm
  | spurOut => exact nomatch hm

/-- A part with a commit pending, the slot RESERVED. -/
theorem witness_ActiveBankStaysValid :
    let s := { awaiting 0 with pending := [.serviceTick] }
    MapLaw s ∧ s.mgmt.commit.isSome = true ∧ ∃ t, step s = .next t :=
  ⟨⟨fun _ => ⟨fun ⟨_, h⟩ => (nomatch h), fun ⟨_, h⟩ => (nomatch h)⟩, by decide, fun _ => ⟨rfl, by decide⟩⟩, rfl, _, rfl⟩

/-- A bank with a page loaded. -/
theorem witness_ClearPagesStayBlank :
    let s := withPage 2 0 [0x3F#8] station
    BanksCanonical s ∧ PagesLaw s ∧ ∃ t, step s = .next t :=
  ⟨⟨by decide, by decide⟩, ⟨by unfold Bank.PagesLaw; decide, by unfold Bank.PagesLaw; decide⟩, _, rfl⟩

theorem witness_ReportingLinesHaveOneRecord :
    ReportingLaw { reporting with pending := [.serviceTick] } ∧ CatchLaw { reporting with pending := [.serviceTick] } ∧
    ∃ t, step { reporting with pending := [.serviceTick] } = .next t :=
  ⟨reporting_reports, reporting_catches, reporting_steps⟩

/-- A part that sends a POLL, its spur DISABLED. -/
theorem witness_TransmittersHoldWhatTheySend :
    let s := { reporting with merge := { reporting.merge with tx := .send .transit 3 }, pending := [.serviceTick] }
    SpurLaw s ∧ TransmitLaw s ∧ ∃ t, step s = .next t := by
  refine ⟨fun _ => ⟨rfl, rfl, fun _ _ h => (nomatch h), rfl⟩, ⟨fun h => (nomatch h), ?_, fun h => (nomatch h),
    fun _ _ h => (nomatch h)⟩, _, rfl⟩
  rintro src n h
  cases h
  exact ⟨by decide, by decide⟩

/-- The station, and a part in unaddressed mode. -/
theorem witness_AddressesStayLegal :
    AddressesLaw station ∧ UnaddressedLaw (State.powerOn 1#2 0x7F#7 0xFFF#12) ∧
    (State.powerOn 1#2 0x7F#7 0xFFF#12).adr = Config.broadcast ∧
    ∃ t, step (State.powerOn 1#2 0x7F#7 0xFFF#12) = .next t :=
  ⟨⟨by decide, by decide, by decide, by decide, by decide⟩,
    fun _ => ⟨rfl, rfl, rfl, rfl, rfl, rfl, rfl, rfl, rfl, rfl, rfl, rfl, by decide, by decide, fun _ h => (nomatch h),
      fun _ h => nomatch h⟩, rfl, _, rfl⟩

theorem witness_StrapsAndGenerationChangeOnlyByTheirEvents :
    ∃ t, exec .serviceTick station = .next t ∧ ∀ rate adr pins, Instr.serviceTick ≠ .powerOnReset rate adr pins :=
  ⟨_, rfl, fun _ _ _ h => nomatch h⟩

theorem witness_CountersFallOnlyWhenCleared : ∃ t, exec (.clearCounters controller true) station = .next t := ⟨_, rfl⟩

end Sys2Proof.Tests
end

/-! ## The class of a received unit (R1)

The five rows of R1's table, the meaning of RECEIVE_UNIT, and the fact that a receiver reads a unit only through `classOf`. -/

namespace Sys2Proof.Proofs

open Sys2Proof Sys2Proof.Machine

@[simp] theorem classOf_data (v : Digit) : classOf { mark := false, value := v } = .data v := rfl

@[simp] theorem classOf_start : classOf { mark := true, value := 0x0#4 } = .start := rfl

@[simp] theorem classOf_stop : classOf { mark := true, value := 0x8#4 } = .stop := rfl

@[simp] theorem classOf_idle : classOf { mark := true, value := 0xF#4 } = .idle := rfl

theorem classOf_stray {v : Digit} (hStart : v ≠ 0x0#4) (hStop : v ≠ 0x8#4) (hIdle : v ≠ 0xF#4) :
    classOf { mark := true, value := v } = .stray := by
  simp [classOf, hStart, hStop, hIdle]

/-- RECEIVE_UNIT takes what is due, and then gives the unit to the receiver (assumption log 4). -/
theorem exec_receiveUnit (p : Port) (u : LineUnit) (s : State) :
    exec (.receiveUnit p u) s = s.settled fun t => t.receive p u := rfl

/-- R1: a receiver, deaf or in any of its three states, acts on a unit according to its class alone. -/
theorem receive_congr_of_classOf_eq {u v : LineUnit} (huv : classOf u = classOf v) (s : State) (p : Port) :
    s.receive p u = s.receive p v := by
  unfold State.receive
  rw [huv]

/-- Settles O7: the classes are the rows of R1's table, and RECEIVE_UNIT reads the unit only through its class. -/
theorem unitsActByTheirClass : Obligations.UnitsActByTheirClass := by
  refine ⟨classOf_data, classOf_start, classOf_stop, classOf_idle, fun v => classOf_stray, fun s p u v huv => ?_⟩
  simp only [exec_receiveUnit, receive_congr_of_classOf_eq huv]

end Sys2Proof.Proofs

/-! ## Validation (R57, R58)

The reason that an entry fails with, and the failure that the search through the addresses answers. -/

namespace Sys2Proof.Proofs

open Sys2Proof Sys2Proof.Machine

/-! ### The first failure in a list of addresses -/

/-- In a strictly ascending list, a search that pairs each answer with its address finds the lowest address that has an answer. -/
theorem findSome_pair_eq_some_iff {f : Addr → Option Digit} {l : List Addr} (hl : l.Pairwise (· < ·)) (r : Digit) (a : Addr) :
    (l.findSome? fun c => (f c).map fun x => (x, c)) = some (r, a) ↔
      a ∈ l ∧ f a = some r ∧ ∀ c ∈ l, c < a → f c = none := by
  induction l with
  | nil => simp
  | cons b rest ih =>
    obtain ⟨hb, hrest⟩ := List.pairwise_cons.mp hl
    have below : a ∈ rest → b < a := hb a
    have notBelow : ∀ c ∈ rest, ¬c < b := fun c hc => BitVec.not_lt.mpr (BitVec.le_of_lt (hb c hc))
    cases hf : f b with
    | none =>
      have hab : f a = some r → a ≠ b := by rintro h rfl; simp [hf] at h
      simp only [List.findSome?_cons, hf, Option.map_none, ih hrest, List.mem_cons, forall_eq_or_imp]
      grind
    | some x =>
      simp only [List.findSome?_cons, hf, Option.map_some, Option.some.injEq, Prod.mk.injEq, List.mem_cons, forall_eq_or_imp]
      constructor
      · rintro ⟨rfl, rfl⟩
        exact ⟨.inl rfl, hf, fun hlt => absurd hlt (BitVec.lt_irrefl _), fun c hc hlt => absurd hlt (notBelow c hc)⟩
      · rintro ⟨rfl | ha, hfa, hmin, -⟩
        · exact ⟨Option.some.inj (hf.symm.trans hfa), rfl⟩
        · exact absurd (hmin (below ha)) (by simp)

/-- R57: the addresses that validation examines are all but the own address. -/
@[simp] theorem mem_examined (own a : Addr) : a ∈ examined own ↔ a ≠ own := by
  have hall : a ∈ (List.range 128).map (BitVec.ofNat 7) :=
    List.mem_map.mpr ⟨a.toNat, List.mem_range.mpr a.isLt, by simp⟩
  simp [examined, -List.mem_map, hall]

/-- R57: validation goes through the addresses in ascending order. -/
theorem examined_ascending (own : Addr) : (examined own).Pairwise (· < ·) := by
  refine (List.pairwise_map.mpr (List.pairwise_lt_range.imp_of_mem fun {i j} hi hj hij => ?_)).filter _
  rw [List.mem_range] at hi hj
  rwa [BitVec.lt_def, BitVec.toNat_ofNat, BitVec.toNat_ofNat, Nat.mod_eq_of_lt hi, Nat.mod_eq_of_lt hj]

/-- R57, R58: a bank passes validation exactly when no entry but the own one fails a check. -/
theorem firstFault_eq_none_iff (b : Bank) (own : Addr) (spur : SpurState) :
    b.firstFault own spur = none ↔ ∀ a, a ≠ own → b.entryFault own spur a = none := by
  simp [Bank.firstFault]

/-- R57: validation answers the lowest address, own address skipped, whose entry fails a check. -/
theorem firstFault_eq_some_iff (b : Bank) (own : Addr) (spur : SpurState) (r : Digit) (a : Addr) :
    b.firstFault own spur = some (r, a) ↔
      a ≠ own ∧ b.entryFault own spur a = some r ∧ ∀ c, c < a → c ≠ own → b.entryFault own spur c = none := by
  simp only [Bank.firstFault, findSome_pair_eq_some_iff (examined_ascending own), mem_examined]
  exact and_congr_right' (and_congr_right' (forall_congr' fun c => Imp.swap))

/-! ### The checks of an entry -/

/-- R48: the column of a REMAP's target is the column sum modulo 16. -/
theorem ofInt_columnSum (e : Entry) (a : Addr) : BitVec.ofInt 4 (e.columnSum a) = colOf a + e.columnStep := by
  simp [Entry.columnSum, stepOf, BitVec.ofInt_add]

/-- R57, check 3: which entries use the spur. -/
theorem usesSpur_iff (e : Entry) :
    e.usesSpur = true ↔ e.action = .divert ∨ e.action = .mirror ∨ e.action = .remap ∧ e.spill = true := by
  simp [Entry.usesSpur, or_assoc]

/-- The answer of the first of four checks that fails, told by cases. -/
theorem firstOfFour_eq_some_iff {c₁ c₂ c₃ c₄ : Prop} [Decidable c₁] [Decidable c₂] [Decidable c₃] [Decidable c₄]
    (x₁ x₂ x₃ x₄ r : Digit) :
    (if c₁ then some x₁ else if c₂ then some x₂ else if c₃ then some x₃ else if c₄ then some x₄ else none) = some r ↔
      (c₁ ∧ r = x₁) ∨ (¬c₁ ∧ c₂ ∧ r = x₂) ∨ (¬c₁ ∧ ¬c₂ ∧ c₃ ∧ r = x₃) ∨ (¬c₁ ∧ ¬c₂ ∧ ¬c₃ ∧ c₄ ∧ r = x₄) := by
  split_ifs <;> simp [*, eq_comm]

/-- R57: the checks of the table in their order, as conditions on the entry. -/
theorem entryFault_eq (b : Bank) (own : Addr) (spur : SpurState) (a : Addr) :
    b.entryFault own spur a =
      if a = Config.broadcast ∧ (b.entry a).action = .remap then some 4#4
      else if (b.entry a).action = .remap ∧ 0 ≤ (b.entry a).columnSum a ∧ (b.entry a).columnSum a ≤ 15 ∧
          ((b.entry a).target a = own ∨ (b.entry a).target a = Config.broadcast) then some 1#4
      else if spur = .disabled ∧ (b.entry a).usesSpur = true then some 2#4
      else if (b.entry a).translate = true ∧ b.isValid (b.entry a).pageNumber = false then some 3#4
      else none := by
  simp [Bank.entryFault, Entry.inRange, and_assoc]

/-- R57: an entry fails validation with the reason of the first check of the table that it fails. -/
theorem failsCheck_iff (b : Bank) (own : Addr) (spur : SpurState) (a : Addr) (r : Digit) :
    failsCheck b own spur a r ↔ b.entryFault own spur a = some r := by
  have hsum : ((colOf a).toNat : Int) + (b.entry a).columnStep.toInt = (b.entry a).columnSum a := rfl
  rw [entryFault_eq, firstOfFour_eq_some_iff, usesSpur_iff]
  simp only [failsCheck, hsum, ofInt_columnSum]
  rfl

/-- R57: an entry passes validation when it fails no check of the table. -/
theorem passesChecks_iff (b : Bank) (own : Addr) (spur : SpurState) (a : Addr) :
    (∀ r, ¬failsCheck b own spur a r) ↔ b.entryFault own spur a = none := by
  simp only [failsCheck_iff, Option.eq_none_iff_forall_ne_some, ne_eq]

/-- Settles O31: `entryFault` answers the first check of the table that fails, and the search goes through the addresses in
ascending order, the own address left out. -/
theorem validationFindsTheFirstFailure : Obligations.ValidationFindsTheFirstFailure := by
  intro b own spur
  constructor
  · simp only [firstFault_eq_none_iff, passesChecks_iff]
  · intro r a
    simp only [firstFault_eq_some_iff, passesChecks_iff]
    rw [failsCheck_iff]

end Sys2Proof.Proofs

/-! ## COPY ACTIVE (R41, R146) -/

namespace Sys2Proof.Proofs

open Sys2Proof Sys2Proof.Machine

/-- COPY_ACTIVE takes what is due, and then hears the requester's MGMT frame (assumption log 4). -/
theorem exec_copyActive (q : Requester) (s : State) :
    exec (.copyActive q) s = s.settled fun t => t.manageFrom q 0x4#4 [] := rfl

/-- Settles O30: the command reaches the map store as it was sent, and the map store that is answered is the copied one. -/
theorem copyActiveCopiesTheActiveBank : Obligations.CopyActiveCopiesTheActiveBank := by
  intro s q h
  obtain ⟨⟨hQuiet, ⟨-, hCommit, -⟩, -⟩, -⟩ := id h
  have hAnswer : s.manageFrom q 0x4#4 [] =
      ((s.heard q.port).setMap s.map.copyActive).answered q.src q.seq 0x4#4 statusOk [] :=
    State.manageFrom_answered h (c := .copyActive) (by simp) rfl (by simp [State.execute]) (by simpa using hCommit)
  refine ⟨s.map.copyActive, ?_, MapStore.activeBank_setStaging _ _, MapStore.stagingBank_setStaging _ _,
    MapStore.active_setStaging _ _, MapStore.generation_setStaging _ _⟩
  rw [exec_copyActive, State.settled_of_quiet hQuiet, hAnswer]
  rfl

end Sys2Proof.Proofs

/-! ## Validation and the spur state (R57, R59, R61)

Of the four checks only check 3 looks at the spur state. So a bank that passes keeps passing while no enabled spur is disabled, and
the disable of the spur needs the check of R59 and nothing else. -/

namespace Sys2Proof.Proofs

open Sys2Proof Sys2Proof.Machine

/-- R57: an entry passes exactly when it passes with an enabled spur and, while the spur is DISABLED, does not use it. -/
theorem entryFault_eq_none_iff_enabled (b : Bank) (own : Addr) (spur : SpurState) (a : Addr) :
    b.entryFault own spur a = none ↔
      b.entryFault own .closed a = none ∧ (spur = .disabled → (b.entry a).usesSpur = false) := by
  rw [entryFault_eq, entryFault_eq]
  split_ifs <;> simp_all

/-- R59: the disable check passes when no entry but the own one uses the spur. -/
theorem firstSpurUse_eq_none_iff (b : Bank) (own : Addr) :
    b.firstSpurUse own = none ↔ ∀ a, a ≠ own → (b.entry a).usesSpur = false := by
  simp [Bank.firstSpurUse]

/-- R57, R59: a bank passes validation exactly when it passes with an enabled spur and, while the spur is DISABLED, passes the check of
R59. -/
theorem firstFault_eq_none_iff_enabled (b : Bank) (own : Addr) (spur : SpurState) :
    b.firstFault own spur = none ↔
      b.firstFault own .closed = none ∧ (spur = .disabled → b.firstSpurUse own = none) := by
  simp only [firstFault_eq_none_iff, firstSpurUse_eq_none_iff, entryFault_eq_none_iff_enabled b own spur, imp_and, forall_and]
  exact and_congr_right' ⟨fun h hd a ha => h a ha hd, fun h a ha hd => h hd a ha⟩

/-- R60: a change of the spur state that does not disable an enabled spur leaves a bank passing. -/
theorem passes_of_not_disabling {b : Bank} {own : Addr} {spur spur' : SpurState} (h : b.firstFault own spur = none)
    (hs : spur' = .disabled → spur = .disabled) : b.firstFault own spur' = none := by
  rw [firstFault_eq_none_iff_enabled] at h ⊢
  exact ⟨h.1, h.2 ∘ hs⟩

/-- R59, R60: a bank that passes the disable check passes while the spur is DISABLED. -/
theorem passes_disabled {b : Bank} {own : Addr} {spur : SpurState} (h : b.firstFault own spur = none)
    (hu : b.firstSpurUse own = none) : b.firstFault own .disabled = none := by
  rw [firstFault_eq_none_iff_enabled] at h ⊢
  exact ⟨h.1, fun _ => hu⟩

/-- R61: the reset contents pass in every spur state. -/
theorem passes_reset (own : Addr) (spur : SpurState) : Bank.reset.firstFault own spur = none := by
  have hzero : ∀ a, Bank.reset.entry a = Entry.zero := fun _ => rfl
  simp [firstFault_eq_none_iff, entryFault_eq, hzero, Entry.zero, Entry.usesSpur]

end Sys2Proof.Proofs

/-! ## What leaves the map store alone (R39, R99, R145)

Most operations of the part touch neither the map store, the spur state nor a pending commit, and do nothing to the reply slot but
grant the reply that waits in it. `KeepsMap` says so once, and is proved here for each of them. -/

namespace Sys2Proof.Proofs

open Sys2Proof Sys2Proof.Machine

/-- The downstream transmitter sends the reply slot's frame. -/
def SendsReply (s : State) : Prop := ∃ n, s.merge.tx = .send .reply n

/-- `t` has the map store, the own address, the spur state and the pending commit of `s`; and its reply slot is that of `s`, or the
reply that waited there has been granted. -/
structure KeepsMap (s t : State) : Prop where
  resetLow : t.resetLow = s.resetLow
  adr : t.adr = s.adr
  map : t.map = s.map
  spurState : t.spur.state = s.spur.state
  commit : t.mgmt.commit = s.mgmt.commit
  slot : (t.mgmt.reply = s.mgmt.reply ∧ (SendsReply t ↔ SendsReply s)) ∨
    ∃ ds, s.mgmt.reply = .full ds ∧ t.mgmt.reply = .sending ds ∧ SendsReply t

/-- The fields of the state that `KeepsMap` speaks of. -/
def mapView (s : State) : Bool × Addr × MapStore × SpurState × Option (Addr × Digit) × ReplySlot × Tx :=
  (s.resetLow, s.adr, s.map, s.spur.state, s.mgmt.commit, s.mgmt.reply, s.merge.tx)

/-- An operation on other fields keeps the map store. -/
theorem KeepsMap.of_view {s t : State} (h : mapView t = mapView s) : KeepsMap s t := by
  simp only [mapView, Prod.mk.injEq] at h
  obtain ⟨hlow, hadr, hmap, hspur, hcommit, hreply, htx⟩ := h
  exact ⟨hlow, hadr, hmap, hspur, hcommit, .inl ⟨hreply, by simp only [SendsReply, htx]⟩⟩

theorem KeepsMap.refl (s : State) : KeepsMap s s := .of_view rfl

theorem KeepsMap.trans {s t u : State} (h : KeepsMap s t) (k : KeepsMap t u) : KeepsMap s u where
  resetLow := k.resetLow.trans h.resetLow
  adr := k.adr.trans h.adr
  map := k.map.trans h.map
  spurState := k.spurState.trans h.spurState
  commit := k.commit.trans h.commit
  slot := by
    rcases h.slot with ⟨hreply, hsends⟩ | ⟨ds, hfull, hsending, hsends⟩
    · rcases k.slot with ⟨kreply, ksends⟩ | ⟨ds, kfull, kgranted⟩
      · exact .inl ⟨kreply.trans hreply, ksends.trans hsends⟩
      · exact .inr ⟨ds, hreply.symm.trans kfull, kgranted⟩
    · rcases k.slot with ⟨kreply, ksends⟩ | ⟨ds', kfull, -⟩
      · exact .inr ⟨ds, hfull, kreply.trans hsending, ksends.mpr hsends⟩
      · exact absurd (hsending.symm.trans kfull) (by simp)

/-- An operation that first changes other fields. -/
theorem KeepsMap.after_view {s t u : State} (k : KeepsMap t u) (h : mapView t = mapView s) : KeepsMap s u :=
  (KeepsMap.of_view h).trans k

/-- A reply slot that is FREE stays FREE, and no reply is sent that was not sent before. -/
theorem KeepsMap.free {s t : State} (k : KeepsMap s t) (h : s.mgmt.reply = .free) :
    t.mgmt.reply = .free ∧ (SendsReply t ↔ SendsReply s) := by
  rcases k.slot with ⟨hreply, hsends⟩ | ⟨ds, hfull, -⟩
  · exact ⟨hreply.trans h, hsends⟩
  · exact absurd (h.symm.trans hfull) (by simp)

/-- A change of the merge unit that leaves the transmitter as it was towards the reply slot. -/
theorem keepsMap_setMerge {s : State} {x : Merge} (h : (∃ n, x.tx = .send .reply n) ↔ SendsReply s) :
    KeepsMap s (s.setMerge x) := ⟨rfl, rfl, rfl, rfl, rfl, .inl ⟨rfl, h⟩⟩

/-! ### Receivers, counts and settings -/

theorem keepsMap_setRx (s : State) (p : Port) (r : Receiver) : KeepsMap s (s.setRx p r) := by
  cases p <;> exact .of_view rfl

theorem keepsMap_noRun (s : State) (p : Port) : KeepsMap s (s.noRun p) := by cases p <;> exact .of_view rfl

theorem keepsMap_count (s : State) (c : Counter) : KeepsMap s (s.count c) := .of_view rfl

theorem keepsMap_report (s : State) (p : Port) (u : UnitClass) : KeepsMap s (s.report p u) := by
  cases p <;> (unfold State.report; dsimp only; repeat' split) <;> exact .of_view rfl

theorem keepsMap_idleBetween (s : State) (p : Port) : KeepsMap s (s.idleBetween p) := by
  cases p with
  | upstream => unfold State.idleBetween State.raiseGap; dsimp only; split <;> exact .of_view rfl
  | spur => exact .refl s

theorem keepsMap_tick (s : State) : KeepsMap s s.tick := by
  have hcounts : KeepsMap s s.tickCounts := .of_view rfl
  unfold State.tick
  generalize s.tickCounts = t at hcounts ⊢
  refine hcounts.trans ?_
  dsimp only
  split
  · split <;> exact .of_view rfl
  · split
    · exact .of_view rfl
    · split <;> exact .of_view rfl

/-! ### Grants and entries (R28, R94, R96 to R99, R104) -/

/-- R98: no position of the grant cycle is the reply slot's. -/
theorem cycleSource_ne_reply : ∀ i, cycleSource i ≠ .reply := by decide

theorem keepsMap_grantDown (s : State) : KeepsMap s s.grantDown := by
  by_cases hready : s.merge.tx = .ready
  · have hidle : ¬SendsReply s := by simp [SendsReply, hready]
    by_cases hfull : ∃ ds, s.mgmt.reply = .full ds
    · obtain ⟨ds, hfull⟩ := hfull
      rw [State.grantDown_reply hready hfull]
      exact ⟨rfl, rfl, rfl, rfl, rfl, .inr ⟨ds, hfull, rfl, 0, rfl⟩⟩
    · rw [not_exists] at hfull
      cases hwin : s.cycleWinner with
      | none => rw [State.grantDown_none hfull hwin]; exact .refl s
      | some i =>
        rw [State.grantDown_queue hready hfull hwin]
        exact keepsMap_setMerge (by simp [hidle, cycleSource_ne_reply])
  · rw [State.grantDown_of_not_ready hready]; exact .refl s

theorem keepsMap_grantSpur (s : State) : KeepsMap s s.grantSpur := by
  unfold State.grantSpur; split <;> exact .of_view rfl

theorem keepsMap_enter (s : State) (q : Target) (hs : List Held) : KeepsMap s (s.enter q hs) := by
  cases q with
  | transit => exact (keepsMap_grantDown _).after_view rfl
  | spurReturn => exact (keepsMap_grantDown _).after_view rfl
  | spurOut => exact (keepsMap_grantSpur _).after_view rfl

theorem keepsMap_insert (s : State) (h : Held) : KeepsMap s (s.insert h) :=
  (keepsMap_grantDown _).after_view rfl

/-! ### Lines, latches and EVENT frames (chapter 7, R128, R132, R167) -/

theorem keepsMap_examineEvent (s : State) : KeepsMap s s.examineEvent := by
  unfold State.examineEvent
  split
  · exact (keepsMap_insert _ _).after_view rfl
  · exact .refl s

theorem keepsMap_moveEager (move : LineBlock → Fin 13 → LineBlock) (groups : List LineGroup) (s : State) :
    KeepsMap s (s.moveEager move groups) := by
  induction groups generalizing s with
  | nil => exact .refl s
  | cons g rest ih =>
    have hmove : KeepsMap s (s.moveGroup move g.lines) := .of_view rfl
    simp only [State.moveEager]
    split
    · exact (hmove.trans (keepsMap_examineEvent _)).trans (ih _)
    · exact hmove.trans (ih _)

theorem keepsMap_moveLines (move : LineBlock → Fin 13 → LineBlock) (groups : List LineGroup) (s : State) :
    KeepsMap s (s.moveLines move groups) := by
  unfold State.moveLines
  split
  · exact (keepsMap_moveEager _ _ _).after_view rfl
  · exact keepsMap_moveEager _ _ _

theorem keepsMap_sampleLines (s : State) (pins : BitVec 12) : KeepsMap s (s.sampleLines pins) := by
  unfold State.sampleLines State.handEdges
  split
  · exact (keepsMap_moveLines _ _ _).after_view rfl
  · exact (keepsMap_moveLines _ _ _).after_view rfl

theorem keepsMap_tellEdge (s : State) (before : BitVec 8) : KeepsMap s (s.tellEdge before) := by
  unfold State.tellEdge
  split
  · exact keepsMap_moveLines _ _ _
  · exact .refl s

theorem keepsMap_latch (s : State) (l : Latch) : KeepsMap s (s.latch l) :=
  (keepsMap_tellEdge _ _).after_view rfl

/-- A cause that is counted and sets its latch. -/
theorem keepsMap_count_latch (s : State) (c : Counter) (l : Latch) : KeepsMap s ((s.count c).latch l) :=
  (keepsMap_count s c).trans (keepsMap_latch _ l)

theorem keepsMap_malformedEvent (s : State) : KeepsMap s s.malformedEvent := keepsMap_count_latch _ _ _

theorem keepsMap_overrun (s : State) (q : Target) : KeepsMap s (s.overrun q) := by
  cases q <;> exact keepsMap_count_latch _ _ _

/-! ### Supervision (R12, R162, R164, R165) -/

theorem keepsMap_examineBreak (s : State) : KeepsMap s s.examineBreak := by
  unfold State.examineBreak
  split
  · exact (keepsMap_insert _ _).after_view rfl
  · exact .refl s

theorem keepsMap_eitherOrder {f g : State → State} (hf : ∀ u, KeepsMap u (f u)) (hg : ∀ u, KeepsMap u (g u)) (s : State) :
    KeepsMap s (s.eitherOrder f g) := by
  have hconsume : KeepsMap s s.consume := .of_view rfl
  unfold State.eitherOrder
  split
  · split
    · exact (hconsume.trans (hf _)).trans (hg _)
    · exact (hconsume.trans (hg _)).trans (hf _)
  · exact (hf _).trans (hg _)

theorem keepsMap_truncate (s : State) (p : Port) : KeepsMap s (s.truncate p) := by
  unfold State.truncate
  split
  · cases p <;> exact (keepsMap_malformedEvent _).after_view rfl
  · exact .refl s

theorem keepsMap_becomeLive (s : State) : KeepsMap s s.becomeLive := by
  unfold State.becomeLive
  split
  · exact (keepsMap_examineBreak _).after_view rfl
  · exact .refl s

theorem keepsMap_discardReports (s : State) (hs : List Held) : KeepsMap s (s.discardReports hs) := keepsMap_moveLines _ _ _

theorem keepsMap_discardBreaks (s : State) (hs : List Held) : KeepsMap s (s.discardBreaks hs) := by
  unfold State.discardBreaks
  induction hs generalizing s with
  | nil => exact .refl s
  | cons h rest ih =>
    refine KeepsMap.trans ?_ (ih _)
    dsimp only; split <;> exact .of_view rfl

theorem keepsMap_setReporting (s : State) (mode : ReportMode) (a : Addr) (code : BitVec 2) :
    KeepsMap s (s.setReporting mode a code) := by
  unfold State.setReporting
  refine (keepsMap_eitherOrder (fun u => ?_) (fun u => ?_) _).after_view rfl
  · split
    · exact keepsMap_examineEvent u
    · exact .refl u
  · split
    · exact keepsMap_examineBreak u
    · exact .refl u

/-! ### Frames on the main path and own frames of the line unit (chapter 2) -/

theorem keepsMap_placeAsIs (s : State) (q : Target) (ds : List Digit) : KeepsMap s (s.placeAsIs q ds) := by
  unfold State.placeAsIs
  split
  · exact keepsMap_enter _ _ _
  · exact keepsMap_overrun _ _

theorem keepsMap_enterCopy (s : State) (hop : List Digit) (alone : Bool) (f : Frame) (c : Copy) :
    KeepsMap s (s.enterCopy hop alone f c) := by
  unfold State.enterCopy
  dsimp only
  split
  · exact (keepsMap_enter _ _ _).after_view rfl
  · split <;> exact keepsMap_enter _ _ _

theorem keepsMap_placeCopy (s : State) (e : Entry) (hop : List Digit) (alone : Bool) (f : Frame) (c : Copy) :
    KeepsMap s (s.placeCopy e hop alone f c).2 := by
  unfold State.placeCopy
  split
  · exact keepsMap_count _ _
  · split
    · dsimp only; split
      · exact keepsMap_enter _ _ _
      · exact keepsMap_overrun _ _
    · split
      · exact keepsMap_enterCopy _ _ _ _ _
      · exact keepsMap_overrun _ _

theorem keepsMap_placeCopies (s : State) (e : Entry) (hop : List Digit) (alone : Bool) (f : Frame) (cs : List Copy) :
    KeepsMap s (s.placeCopies e hop alone f cs).2 := by
  induction cs generalizing s with
  | nil => exact .refl s
  | cons c rest ih => exact (keepsMap_placeCopy s e hop alone f c).trans (ih _)

theorem keepsMap_beforeClaims (s : State) (f : Frame) (cs : List Copy) : KeepsMap s (s.beforeClaims f cs).2 := by
  unfold State.beforeClaims
  split
  · split
    · exact keepsMap_malformedEvent _
    · exact keepsMap_count _ _
  · exact .refl s

theorem keepsMap_lookupAndPlace (s : State) (f : Frame) : KeepsMap s (s.lookupAndPlace f).2 := by
  unfold State.lookupAndPlace
  dsimp only
  split
  · exact keepsMap_count _ _
  · exact (keepsMap_beforeClaims _ _ _).trans (keepsMap_placeCopies _ _ _ _ _ _)

theorem keepsMap_openRun (s : State) (e : Entry) (dest : Addr) (cell : Digit) : KeepsMap s (s.openRun e dest cell) := by
  unfold State.openRun; split <;> exact .of_view rfl

theorem keepsMap_broadcastEffect (s : State) (f : Frame) (adjust : Bool) : KeepsMap s (s.broadcastEffect f adjust) := by
  unfold State.broadcastEffect; (repeat' split) <;> exact .of_view rfl

theorem keepsMap_afterPlacement (s : State) (e : Entry) (f : Frame) (adjust placed : Bool) :
    KeepsMap s (s.afterPlacement e f adjust placed) := by
  unfold State.afterPlacement
  split
  · refine KeepsMap.trans ?_ (keepsMap_broadcastEffect _ _ _)
    split
    · exact .refl s
    · split
      · exact .refl s
      · exact keepsMap_openRun _ _ _ _
  · exact .refl s

theorem keepsMap_candidate (s : State) (f : Frame) (adjust : Bool) : KeepsMap s (s.candidate f adjust) := by
  have hgo : ∀ u : State, KeepsMap u ((u.lookupAndPlace f).2.afterPlacement (u.map.activeBank.entry f.dst) f adjust
      (u.lookupAndPlace f).1) := fun u => (keepsMap_lookupAndPlace u f).trans (keepsMap_afterPlacement _ _ _ _ _)
  unfold State.candidate
  dsimp only
  split
  · exact (hgo _).after_view rfl
  · split
    · exact keepsMap_count _ _
    · exact (hgo _).after_view rfl

theorem keepsMap_mainPath (s : State) (f : Frame) : KeepsMap s (s.mainPath f) := by
  have hplace : KeepsMap s (s.closeRun.lookupAndPlace f).2 := (keepsMap_lookupAndPlace _ _).after_view rfl
  unfold State.mainPath
  cases kindOf f.kind with
  | write => exact keepsMap_candidate _ _ _
  | adjust => exact keepsMap_candidate _ _ _
  | unassigned => exact (keepsMap_placeAsIs _ _ _).after_view rfl
  | _ => exact hplace

theorem keepsMap_takeDamaged (s : State) (p : Port) (ds : List Digit) : KeepsMap s (s.takeDamaged p ds) := by
  have hreport : KeepsMap s (((s.noRun p).count .damaged).latch .damageSeen) :=
    (keepsMap_noRun s p).trans (keepsMap_count_latch _ _ _)
  unfold State.takeDamaged
  dsimp only
  split
  · exact hreport.trans (keepsMap_placeAsIs _ _ _)
  · exact hreport

theorem keepsMap_ownCells (s : State) (adjust : Bool) (cell : Digit) (vs : List Digit) :
    KeepsMap s (s.ownCells adjust cell vs) := by
  unfold State.ownCells
  dsimp only
  split
  · exact (keepsMap_latch _ _).after_view rfl
  · exact .of_view rfl

theorem keepsMap_ownRead (s : State) (f : Frame) (cell : Digit) (k : Nat) (masks : List Digit) :
    KeepsMap s (s.ownRead f cell k masks) := by
  unfold State.ownRead
  split
  · dsimp only; split
    · exact (keepsMap_insert _ _).trans (keepsMap_latch _ _)
    · exact keepsMap_insert _ _
  · exact keepsMap_count_latch _ _ _

theorem keepsMap_huntUnit (s : State) (p : Port) (u : UnitClass) : KeepsMap s (s.huntUnit p u) := by
  cases u with
  | start => exact keepsMap_setRx _ _ _
  | idle => exact keepsMap_idleBetween _ _
  | _ => exact keepsMap_malformedEvent _

theorem keepsMap_skipUnit (s : State) (p : Port) (u : UnitClass) : KeepsMap s (s.skipUnit p u) := by
  cases u with
  | start => exact keepsMap_setRx _ _ _
  | idle => exact keepsMap_idleBetween _ _
  | _ => exact .refl s

/-! ### Transmitters (R13, R100, R104) -/

theorem keepsMap_notifyDeparture (s : State) (h : Held) : KeepsMap s (s.notifyDeparture h) := by
  unfold State.notifyDeparture
  split
  · exact keepsMap_moveLines _ _ _
  · exact keepsMap_examineBreak _
  · exact .refl s

theorem keepsMap_readyDown (s : State) : KeepsMap s s.readyDown := by
  unfold State.readyDown
  split
  · next htx => exact (keepsMap_setMerge (by simp [SendsReply, htx])).trans (keepsMap_grantDown _)
  · exact .refl s
  · exact .refl s

theorem keepsMap_readySpur (s : State) : KeepsMap s s.readySpur := by
  unfold State.readySpur
  split
  · exact (keepsMap_grantSpur _).after_view rfl
  · exact .refl s
  · exact .refl s

theorem keepsMap_departSpur (s : State) : KeepsMap s s.departSpur := by
  unfold State.departSpur
  split
  · dsimp only; split
    · exact (keepsMap_notifyDeparture _ _).after_view rfl
    · exact .of_view rfl
  · exact .refl s
  · exact .refl s

theorem keepsMap_sendSpur (s : State) : KeepsMap s s.sendSpur := by
  unfold State.sendSpur
  split
  · split
    · exact keepsMap_readySpur s
    · exact .of_view rfl
  · exact .of_view rfl
  · split
    · exact keepsMap_departSpur s
    · exact .of_view rfl

end Sys2Proof.Proofs

/-! ## The law of the active bank (R39, R60, R99, R155)

`RunningMapLaw` is `MapLaw` of a part whose RESET is not held low, the form in which every operation inside a step keeps it. The lemmas
follow the operations that do more than `KeepsMap` says: the changes of the spur state, the swap, the management commands, the
reception of units and frames, and the departures. -/

namespace Sys2Proof.Proofs

open Sys2Proof Sys2Proof.Machine

/-- `MapLaw` while RESET is not held low. -/
structure RunningMapLaw (s : State) : Prop where
  running : s.resetLow = false
  slot : (∃ ds, s.mgmt.reply = .sending ds) ↔ SendsReply s
  active : s.map.activeBank.firstFault s.adr s.spur.state = none
  pending : s.mgmt.commit.isSome = true →
    s.mgmt.reply = .reserved ∧ s.map.stagingBank.firstFault s.adr s.spur.state = none

theorem runningMapLaw_iff (s : State) : RunningMapLaw s ↔ s.resetLow = false ∧ MapLaw s := by
  constructor
  · rintro ⟨hrun, hslot, hactive, hpending⟩
    exact ⟨hrun, fun _ => hslot, hactive, hpending⟩
  · rintro ⟨hrun, hslot, hactive, hpending⟩
    exact ⟨hrun, hslot hrun, hactive, hpending⟩

theorem RunningMapLaw.mapLaw {s : State} (h : RunningMapLaw s) : MapLaw s := ((runningMapLaw_iff s).mp h).2

/-- What leaves the map store alone keeps the law: a grant moves the slot and the transmitter together. -/
theorem RunningMapLaw.of_keepsMap {s t : State} (h : RunningMapLaw s) (k : KeepsMap s t) : RunningMapLaw t where
  running := k.resetLow.trans h.running
  slot := by
    rcases k.slot with ⟨hreply, hsends⟩ | ⟨ds, -, hsending, hsends⟩
    · rw [hreply, hsends]; exact h.slot
    · exact ⟨fun _ => hsends, fun _ => ⟨ds, hsending⟩⟩
  active := by rw [k.map, k.adr, k.spurState]; exact h.active
  pending := by
    rw [k.commit, k.map, k.adr, k.spurState]
    intro hc
    obtain ⟨hreserved, hstaging⟩ := h.pending hc
    refine ⟨?_, hstaging⟩
    rcases k.slot with ⟨hreply, -⟩ | ⟨ds, hfull, -⟩
    · exact hreply.trans hreserved
    · exact absurd (hreserved.symm.trans hfull) (by simp)

/-! ### The reply slot -/

/-- R155: while the slot is not RESERVED no commit is pending. -/
theorem RunningMapLaw.commit_eq_none {s : State} (h : RunningMapLaw s) (hr : s.mgmt.reply ≠ .reserved) :
    s.mgmt.commit = none :=
  Option.not_isSome_iff_eq_none.mp fun hc => hr (h.pending hc).1

/-- R99: while the slot is not SENDING, no reply is sent. -/
theorem RunningMapLaw.not_sendsReply {s : State} (h : RunningMapLaw s) (hr : ∀ ds, s.mgmt.reply ≠ .sending ds) :
    ¬SendsReply s := fun hs => (h.slot.mpr hs).elim hr

/-- With no commit pending and no reply sent, the law says that the active bank passes. -/
theorem RunningMapLaw.of_idle {s : State} (hrun : s.resetLow = false) (hcommit : s.mgmt.commit = none)
    (hreply : ∀ ds, s.mgmt.reply ≠ .sending ds) (hsends : ¬SendsReply s)
    (hactive : s.map.activeBank.firstFault s.adr s.spur.state = none) : RunningMapLaw s where
  running := hrun
  slot := iff_of_false (fun ⟨ds, h⟩ => hreply ds h) hsends
  active := hactive
  pending := by simp [hcommit]

/-- R144: a reply is built where no commit is pending and no reply is sent. -/
theorem runningMapLaw_fillReply {s : State} (hrun : s.resetLow = false) (hcommit : s.mgmt.commit = none)
    (hsends : ¬SendsReply s) (hactive : s.map.activeBank.firstFault s.adr s.spur.state = none) (ds : List Digit) :
    RunningMapLaw (s.fillReply ds) :=
  (RunningMapLaw.of_idle (s := s.setMgmt { s.mgmt with reply := .full ds }) hrun hcommit (by simp) hsends hactive).of_keepsMap
    (keepsMap_grantDown _)

/-- R140, R141: a reply is built in a FREE slot. -/
theorem RunningMapLaw.reply {s : State} (h : RunningMapLaw s) (hfree : s.mgmt.reply = .free) (f : Frame) (payload : List Digit) :
    RunningMapLaw (s.reply f payload) :=
  runningMapLaw_fillReply h.running (h.commit_eq_none (by simp [hfree])) (h.not_sendsReply (by simp [hfree])) h.active _

/-- R144: a command is answered in a FREE slot. -/
theorem RunningMapLaw.answerWith {s : State} (h : RunningMapLaw s) (hfree : s.mgmt.reply = .free) (f : Frame) (status : Digit)
    (data : List Digit) : RunningMapLaw (s.answerWith f status data) :=
  (h.of_keepsMap (t := s.recordReply f (f.command :: status :: data)) (.of_view rfl)).reply hfree f _

/-! ### The spur state and the swap (R40, R105 to R108, R156) -/

/-- A change of the spur unit that does not disable an enabled spur. -/
theorem RunningMapLaw.setSpur {s : State} (h : RunningMapLaw s) {x : SpurUnit} (hx : x.state = .disabled → s.spur.state = .disabled) :
    RunningMapLaw (s.setSpur x) where
  running := h.running
  slot := h.slot
  active := passes_of_not_disabling h.active hx
  pending hc := ⟨(h.pending hc).1, passes_of_not_disabling (h.pending hc).2 hx⟩

theorem runningMapLaw_spurOpens {s : State} (h : RunningMapLaw s) : RunningMapLaw s.spurOpens := by
  unfold State.spurOpens
  split
  · have hopened := h.setSpur (x := { s.spur with state := .opened, restoreCount := 0 }) (by simp)
    exact hopened.of_keepsMap (((keepsMap_truncate _ _).trans (keepsMap_count _ _)).trans
      (keepsMap_eitherOrder (fun u => keepsMap_latch u _) keepsMap_examineBreak _))
  · exact h

theorem runningMapLaw_spurCloses {s : State} (h : RunningMapLaw s) : RunningMapLaw s.spurCloses := by
  unfold State.spurCloses
  split
  · have hclosed := h.setSpur (x := { s.spur with state := .closed, watchCount := 0, restoreCount := 0 }) (by simp)
    exact hclosed.of_keepsMap ((keepsMap_count _ _).trans (keepsMap_examineBreak _))
  · exact h

/-- R40, R60: the swap makes the staging bank active, which has passed validation since its COMMIT was accepted. -/
theorem runningMapLaw_swap {s : State} (h : RunningMapLaw s) : RunningMapLaw s.swap := by
  unfold State.swap
  split
  · exact h
  · next src seq hc =>
    obtain ⟨hreserved, hstaging⟩ := h.pending (by simp [hc])
    exact runningMapLaw_fillReply (s := ((s.setMap s.map.exchange).closeRun).setMgmt _) h.running rfl
      (h.not_sendsReply (by simp [hreserved])) (by simpa [State.closeRun] using hstaging) _

/-! ### The events that are due (R39, R87, R105, R106, R161, R162) -/

theorem runningMapLaw_toldSilent {s : State} (h : RunningMapLaw s) : RunningMapLaw s.toldSilent :=
  runningMapLaw_swap (h.of_keepsMap ((keepsMap_truncate s _).trans (.of_view rfl)))

theorem runningMapLaw_becomeSilent {s : State} (h : RunningMapLaw s) : RunningMapLaw s.becomeSilent := by
  unfold State.becomeSilent
  split
  · extract_lets _ t u
    have ht : RunningMapLaw t := h.of_keepsMap (.of_view rfl)
    have hu : RunningMapLaw u := ht.of_keepsMap (.of_view rfl)
    clear_value u t
    split
    · split
      · exact (runningMapLaw_toldSilent (hu.of_keepsMap (keepsMap_tellEdge _ _))).of_keepsMap (keepsMap_examineBreak _)
      · exact (runningMapLaw_toldSilent hu).of_keepsMap ((keepsMap_tellEdge _ _).trans (keepsMap_examineBreak _))
      · exact (runningMapLaw_toldSilent hu).of_keepsMap ((keepsMap_examineBreak _).trans (keepsMap_tellEdge _ _))
    · exact (runningMapLaw_toldSilent (ht.of_keepsMap (keepsMap_latch _ _))).of_keepsMap (keepsMap_examineBreak _)
  · exact h

theorem runningMapLaw_perform {s : State} (h : RunningMapLaw s) (d : Due) : RunningMapLaw (s.perform d) := by
  cases d with
  | runGapExpiry => exact h.of_keepsMap (.of_view rfl)
  | swap => exact runningMapLaw_swap h
  | upstreamSilence => exact runningMapLaw_becomeSilent h
  | upstreamRestore => exact h.of_keepsMap (keepsMap_becomeLive s)
  | spurWatchExpiry => exact runningMapLaw_spurOpens h
  | spurRestore => exact runningMapLaw_spurCloses h

theorem runningMapLaw_foldl_perform (ds : List Due) {s : State} (h : RunningMapLaw s) :
    RunningMapLaw (ds.foldl State.perform s) := by
  induction ds generalizing s with
  | nil => exact h
  | cons d rest ih => exact ih (runningMapLaw_perform h d)

theorem runningMapLaw_settle {s : State} (h : RunningMapLaw s) : RunningMapLaw s.settle :=
  runningMapLaw_foldl_perform _ (h.of_keepsMap (.of_view rfl))

theorem runningMapLaw_takeDue {s : State} (h : RunningMapLaw s) (d : Due) : RunningMapLaw (s.takeDue d) := by
  unfold State.takeDue
  split
  · exact runningMapLaw_perform (h.of_keepsMap (.of_view (by rfl))) d
  · exact h

/-! ### Resets (R148) -/

theorem abort_not_sends (tx : Tx) (src : Source) (n : Nat) : tx.abort ≠ .send src n := by cases tx <;> simp [Tx.abort]

/-- R15: the transmitter that a reset leaves sends nothing. -/
theorem keepsMap_releaseTx {s : State} (hsends : ¬SendsReply s) (tx : Tx) : KeepsMap s (s.releaseTx tx.abort) :=
  keepsMap_setMerge (by simp [hsends, abort_not_sends])

/-- R148: a TRAFFIC reset, carried out while the reply slot is FREE, leaves the map store alone. -/
theorem keepsMap_trafficReset {s : State} (hfree : s.mgmt.reply = .free) (hsends : ¬SendsReply s) : KeepsMap s s.trafficReset := by
  have hconsume : KeepsMap s (if s.line.reportMode = .event then s.consume else s) := by split <;> exact .of_view rfl
  have hflush (u : State) (hu : ¬SendsReply u) : KeepsMap u u.trafficFlush :=
    (keepsMap_setMerge (x := { u.merge with transit := [], spurReturn := [], insertion := [], pointer := 0, tx := .fill 0 })
      (by simp [hu])).trans (.of_view rfl)
  have hreset := ((hconsume.trans (hflush _ (by rwa [(hconsume.free hfree).2]))).trans
    (keepsMap_discardBreaks _ s.trafficLosses)).trans (keepsMap_eitherOrder
      (f := fun u => u.discardReports s.trafficLosses) (fun u => keepsMap_discardReports u _) keepsMap_examineBreak _)
  exact hreset.trans (keepsMap_releaseTx (by rwa [(hreset.free hfree).2]) _)

/-- R148, R164: the end of a FULL reset, which may build a BREAK, leaves the reply slot FREE. -/
theorem runningMapLaw_resetEnds {s : State} (h : RunningMapLaw s) (hfree : s.mgmt.reply = .free) (tx : Tx) :
    RunningMapLaw (s.examineBreak.releaseTx tx.abort) ∧ (s.examineBreak.releaseTx tx.abort).mgmt.reply = .free := by
  have hbreak := keepsMap_examineBreak s
  obtain ⟨-, hsends⟩ := hbreak.free hfree
  have hreleased := hbreak.trans (keepsMap_releaseTx (by rw [hsends]; exact h.not_sendsReply (by simp [hfree])) tx)
  exact ⟨h.of_keepsMap hreleased, (hreleased.free hfree).1⟩

/-- R12, R61, R148: a FULL reset before its end, in the fields that the law speaks of. -/
theorem fullReset_eq_resetEnds (s : State) :
    ∃ u : State, s.fullReset = u.examineBreak.releaseTx s.merge.tx.abort ∧ u.resetLow = s.resetLow ∧ u.map = .reset ∧
      u.mgmt.commit = s.mgmt.commit ∧ u.mgmt.reply = s.mgmt.reply ∧ u.merge.tx = .fill 0 := by
  cases s
  exact ⟨_, rfl, rfl, rfl, rfl, rfl, rfl⟩

/-- R61, R148: a FULL reset, carried out while the reply slot is FREE, leaves banks that pass. -/
theorem runningMapLaw_fullReset {s : State} (h : RunningMapLaw s) (hfree : s.mgmt.reply = .free) :
    RunningMapLaw s.fullReset ∧ s.fullReset.mgmt.reply = .free := by
  obtain ⟨u, hreset, hlow, hmap, hcommit, hreply, htx⟩ := fullReset_eq_resetEnds s
  have hlaw : RunningMapLaw u := .of_idle (hlow.trans h.running) (hcommit.trans (h.commit_eq_none (by simp [hfree])))
    (by simp [hreply, hfree]) (by simp [SendsReply, htx]) (by rw [hmap]; exact passes_reset _ _)
  rw [hreset]
  exact runningMapLaw_resetEnds hlaw (hreply.trans hfree) _

/-! ### Management commands (chapter 8) -/

/-- Commands are executed while the slot is FREE. What they leave in the staging bank is not bound by the law. -/
theorem RunningMapLaw.setStaging {s : State} (h : RunningMapLaw s) (hfree : s.mgmt.reply = .free) (b : Bank) :
    RunningMapLaw (s.setMap (s.map.setStaging b)) :=
  .of_idle h.running (h.commit_eq_none (by simp [hfree])) (by simp [hfree]) (h.not_sendsReply (by simp [hfree]))
    (by simpa using h.active)

/-- R107: the enable of the spur, or a new watch time. -/
theorem runningMapLaw_enableSpur {s : State} (h : RunningMapLaw s) (watch : Digit) : RunningMapLaw (s.enableSpur watch) := by
  unfold State.enableSpur
  split
  · exact (h.setSpur (x := { s.spur with state := .closed, watchTime := watch, watchCount := 0, restoreCount := 0 })
      (by simp)).of_keepsMap (.of_view rfl)
  · exact h.of_keepsMap (.of_view rfl)

theorem abortFrom_sends {tx : Tx} {src : Source} {n : Nat} (h : tx.abortFrom .spurReturn = .send src n) : tx = .send src n := by
  unfold Tx.abortFrom at h
  split at h
  · split at h
    · exact absurd h (by simp)
    · exact h
  · exact h
  · exact h

/-- R59, R60, R108: the disable of the spur, its check passed or the spur DISABLED already. -/
theorem runningMapLaw_disableSpur {s : State} (h : RunningMapLaw s) (hfree : s.mgmt.reply = .free) (watch : Digit)
    (hcheck : s.spur.state ≠ .disabled → s.map.activeBank.firstSpurUse s.adr = none) :
    RunningMapLaw (s.disableSpur watch) ∧ (s.disableSpur watch).mgmt.reply = .free := by
  unfold State.disableSpur
  split
  · exact ⟨h.of_keepsMap (.of_view rfl), hfree⟩
  · next henabled =>
    dsimp only
    set u := State.setSup _ _
    have hreply : u.mgmt.reply = .free := hfree
    have hsends : ¬SendsReply u := by
      rintro ⟨n, hn⟩
      exact h.not_sendsReply (by simp [hfree]) ⟨n, abortFrom_sends hn⟩
    have hlaw : RunningMapLaw u := .of_idle h.running (h.commit_eq_none (by simp [hfree])) (by simp [hreply]) hsends
      (passes_disabled h.active (hcheck henabled))
    have hdiscard := keepsMap_discardReports u s.spur.queue
    exact ⟨hlaw.of_keepsMap hdiscard, (hdiscard.free hreply).1⟩

theorem runningMapLaw_doSetSpur {s : State} (h : RunningMapLaw s) (hfree : s.mgmt.reply = .free) (f : Frame) (enable : Bool)
    (watch : Digit) : RunningMapLaw (s.doSetSpur f enable watch) := by
  have hdisable (hcheck : s.spur.state ≠ .disabled → s.map.activeBank.firstSpurUse s.adr = none) :
      RunningMapLaw ((s.disableSpur watch).answerWith f statusOk []) :=
    have ⟨hlaw, hreply⟩ := runningMapLaw_disableSpur h hfree watch hcheck
    hlaw.answerWith hreply f _ _
  unfold State.doSetSpur
  split
  · refine (runningMapLaw_enableSpur h watch).answerWith ?_ f _ _
    unfold State.enableSpur; split <;> exact hfree
  · split
    · next hd => exact hdisable fun hne => absurd hd hne
    · split
      · exact h.answerWith hfree f _ _
      · next hpass => exact hdisable fun _ => hpass

/-- R39, R58, R154: an accepted COMMIT reserves the slot, and its staging bank has passed validation. -/
theorem runningMapLaw_doCommit {s : State} (h : RunningMapLaw s) (hfree : s.mgmt.reply = .free) (f : Frame) :
    RunningMapLaw (s.doCommit f) := by
  unfold State.doCommit
  split
  · exact h.answerWith hfree f _ _
  · next hpass =>
    have hwaits : RunningMapLaw (s.setMgmt { s.mgmt with reply := .reserved, commit := some (f.src, f.seq) }) :=
      ⟨h.running, iff_of_false (by simp) (h.not_sendsReply (by simp [hfree])), h.active, fun _ => ⟨rfl, hpass⟩⟩
    unfold State.acceptCommit
    dsimp only
    split
    · exact runningMapLaw_swap hwaits
    · exact hwaits

theorem runningMapLaw_execute {s : State} (h : RunningMapLaw s) (hfree : s.mgmt.reply = .free) (f : Frame) (c : Command) :
    RunningMapLaw (s.execute f c) := by
  have hanswer {u : State} (k : KeepsMap s u) (data : List Digit) : RunningMapLaw (u.answerWith f statusOk data) :=
    (h.of_keepsMap k).answerWith (k.free hfree).1 f _ _
  have hstage (b : Bank) : RunningMapLaw ((s.setMap (s.map.setStaging b)).answerWith f statusOk []) :=
    (h.setStaging hfree b).answerWith hfree f _ _
  cases c with
  | reset full =>
    cases full with
    | false => exact hanswer (keepsMap_trafficReset hfree (h.not_sendsReply (by simp [hfree]))) _
    | true =>
      obtain ⟨hlaw, hreply⟩ := runningMapLaw_fullReset h hfree
      exact hlaw.answerWith hreply f _ _
  | loadEntry a e => exact hstage _
  | loadBlock a last e => exact hstage _
  | loadPatterns p i vs => exact hstage _
  | copyActive => exact hstage _
  | commit => exact runningMapLaw_doCommit h hfree f
  | readEntry staging a => exact hanswer (.refl s) _
  | readPatterns staging p i k => exact hanswer (.refl s) _
  | status => exact hanswer (.refl s) _
  | readCounters group => exact hanswer (.refl s) _
  | clear selection => exact hanswer (.of_view (by rfl)) _
  | setLine l mode edge hold => exact hanswer (.of_view (by rfl)) _
  | setReporting mode a code => exact hanswer (keepsMap_setReporting _ _ _ _) _
  | setSpur enable watch => exact runningMapLaw_doSetSpur h hfree f enable watch
  | setOptions policy gap silence => exact hanswer (.of_view (by rfl)) _
  | setManager second a => cases second <;> exact hanswer (.of_view (by rfl)) _

/-- R138: a MGMT frame, dropped, replayed, refused or carried out. -/
theorem runningMapLaw_manage {s : State} (h : RunningMapLaw s) (f : Frame) : RunningMapLaw (s.manage f) := by
  by_cases hfree : s.mgmt.reply = .free
  · unfold State.manage
    rw [if_neg (not_not_intro hfree)]
    split
    · exact h.reply hfree f _
    · split
      · exact h.reply hfree f _
      · split
        · exact h.answerWith hfree f _ _
        · exact h.answerWith hfree f _ _
        · exact runningMapLaw_execute h hfree f _
  · unfold State.manage
    rw [if_pos hfree]
    exact h.of_keepsMap (keepsMap_count_latch _ _ _)

/-! ### Frames and units (R8 to R11, R20 to R24, R39) -/

theorem runningMapLaw_ownFrame {s : State} (h : RunningMapLaw s) (f : Frame) : RunningMapLaw (s.ownFrame f) := by
  have hmalformed : RunningMapLaw s.malformedEvent := h.of_keepsMap (keepsMap_malformedEvent s)
  unfold State.ownFrame
  cases kindOf f.kind with
  | write | adjust =>
    dsimp only; split
    · exact hmalformed
    · exact h.of_keepsMap (keepsMap_ownCells _ _ _ _)
  | read =>
    dsimp only; split
    · split
      · exact hmalformed
      · exact h.of_keepsMap (keepsMap_ownRead _ _ _ _ _)
    · exact hmalformed
  | mgmt =>
    dsimp only; split
    · exact hmalformed
    · exact runningMapLaw_manage h f
  | _ => exact h.of_keepsMap (keepsMap_count _ _)

theorem runningMapLaw_takeIntact {s : State} (h : RunningMapLaw s) (p : Port) (f : Frame) : RunningMapLaw (s.takeIntact p f) := by
  have hrestored : RunningMapLaw (s.restoreByFrame p) := by
    cases p with
    | upstream => exact h.of_keepsMap (keepsMap_becomeLive s)
    | spur => exact runningMapLaw_spurCloses h
  unfold State.takeIntact
  dsimp only
  split
  · exact hrestored.of_keepsMap ((keepsMap_noRun _ p).trans (keepsMap_count _ _))
  · split
    · exact runningMapLaw_ownFrame (hrestored.of_keepsMap (keepsMap_noRun _ p)) f
    · cases p with
      | upstream => exact hrestored.of_keepsMap (keepsMap_mainPath _ f)
      | spur => exact hrestored.of_keepsMap (keepsMap_placeAsIs _ _ _)

theorem runningMapLaw_take {s : State} (h : RunningMapLaw s) (p : Port) (e : Ending) (ds : List Digit) :
    RunningMapLaw (s.take p e ds) := by
  unfold State.take
  split
  · exact h.of_keepsMap ((keepsMap_noRun s p).trans (keepsMap_malformedEvent _))
  · exact h.of_keepsMap (keepsMap_takeDamaged s p ds)
  · exact runningMapLaw_takeIntact h p _

theorem runningMapLaw_complete {s : State} (h : RunningMapLaw s) (p : Port) (e : Ending) (ds : List Digit) (after : Receiver) :
    RunningMapLaw (s.complete p e ds after) := by
  cases p with
  | upstream =>
    have hdue (t : State) (ht : RunningMapLaw t) : RunningMapLaw (if t.mgmt.commit.isSome then t.addDue .swap else t) := by
      split
      · exact ht.of_keepsMap (.of_view rfl)
      · exact ht
    exact hdue _ (runningMapLaw_take (h.of_keepsMap (.of_view (by rfl))) _ _ _)
  | spur => exact runningMapLaw_take (h.of_keepsMap (keepsMap_setRx _ _ _)) _ _ _

theorem runningMapLaw_assembleUnit {s : State} (h : RunningMapLaw s) (p : Port) (u : UnitClass) :
    RunningMapLaw (s.assembleUnit p u) := by
  cases u with
  | data d =>
    simp only [State.assembleUnit]
    split
    · exact h.of_keepsMap (keepsMap_setRx _ _ _)
    · exact runningMapLaw_complete h _ _ _ _
  | _ => exact runningMapLaw_complete h _ _ _ _

theorem runningMapLaw_receive {s : State} (h : RunningMapLaw s) (p : Port) (u : LineUnit) : RunningMapLaw (s.receive p u) := by
  have hreported := h.of_keepsMap (keepsMap_report s p (classOf u))
  unfold State.receive
  split
  · exact h
  · dsimp only; split
    · exact hreported.of_keepsMap (keepsMap_huntUnit _ _ _)
    · exact runningMapLaw_assembleUnit hreported _ _
    · exact hreported.of_keepsMap (keepsMap_skipUnit _ _ _)

theorem runningMapLaw_startArrives {s : State} (h : RunningMapLaw s) (p : Port) : RunningMapLaw (s.startArrives p) := by
  have hreported := h.of_keepsMap (keepsMap_report s p .start)
  unfold State.startArrives
  dsimp only
  split
  · exact runningMapLaw_settle (runningMapLaw_complete hreported _ _ _ _)
  · exact hreported

theorem runningMapLaw_arrive {s : State} (h : RunningMapLaw s) (p : Port) (e : Ending) (ds : List Digit) :
    RunningMapLaw (s.arrive p e ds) := by
  unfold State.arrive
  split
  · exact h
  · exact runningMapLaw_complete (runningMapLaw_startArrives h p) _ _ _ _

theorem runningMapLaw_arriveOwn {s : State} (h : RunningMapLaw s) (q : Requester) (kind : Digit) (payload : List Digit) :
    RunningMapLaw (s.arriveOwn q kind payload) := runningMapLaw_arrive h _ _ _

/-! ### Departures and unit times (R13, R14, R99, R100) -/

/-- R99, R100: the frame in transmission leaves its store; with the reply the slot becomes FREE. -/
theorem runningMapLaw_removeHead {s : State} (h : RunningMapLaw s) {src : Source} {n : Nat} (htx : s.merge.tx = .send src n)
    (u : LineUnit) :
    RunningMapLaw ((s.removeHead src).setMerge { (s.removeHead src).merge with tx := .fill 0, dout := u }) := by
  have hsends : SendsReply s ↔ src = .reply := by simp [SendsReply, htx]
  have hidle (t : State) (d : LineUnit) : ¬SendsReply (t.setMerge { t.merge with tx := .fill 0, dout := d }) := by simp [SendsReply]
  by_cases hsrc : src = .reply
  · subst hsrc
    obtain ⟨ds, hsending⟩ := h.slot.mpr (hsends.mpr rfl)
    exact .of_idle h.running (h.commit_eq_none (by simp [hsending])) (by simp [State.removeHead]) (hidle _ _) h.active
  · have hnone : ¬SendsReply s := fun hs => hsrc (hsends.mp hs)
    cases src with
    | reply => exact absurd rfl hsrc
    | spurOut => exact h.of_keepsMap ((keepsMap_setMerge (by simpa [SendsReply, State.removeHead] using hnone)).after_view rfl)
    | _ => exact h.of_keepsMap (keepsMap_setMerge (by simpa using hnone))

/-- R100: a departure of the frame in transmission, and its notification. -/
theorem runningMapLaw_departDown {s : State} (h : RunningMapLaw s) : RunningMapLaw s.departDown := by
  unfold State.departDown
  split
  · next src n htx =>
    have hremoved := runningMapLaw_removeHead h htx unitEnd
    dsimp only
    split
    · exact hremoved.of_keepsMap (keepsMap_notifyDeparture _ _)
    · exact hremoved
  · exact h
  · exact h

theorem runningMapLaw_sendDown {s : State} (h : RunningMapLaw s) : RunningMapLaw s.sendDown := by
  unfold State.sendDown
  split
  · next n htx =>
    split
    · exact h.of_keepsMap (keepsMap_readyDown s)
    · exact h.of_keepsMap (keepsMap_setMerge (by simp [SendsReply, htx]))
  · exact h.of_keepsMap (.of_view rfl)
  · next src n htx =>
    split
    · exact runningMapLaw_departDown h
    · exact h.of_keepsMap (keepsMap_setMerge (by simp [SendsReply, htx]))

theorem runningMapLaw_sendSpur {s : State} (h : RunningMapLaw s) : RunningMapLaw s.sendSpur := h.of_keepsMap (keepsMap_sendSpur s)

theorem runningMapLaw_unitTime {s : State} (h : RunningMapLaw s) : RunningMapLaw s.unitTime := by
  have hconsumed : RunningMapLaw s.consume := h.of_keepsMap (.of_view rfl)
  unfold State.unitTime
  split
  · exact runningMapLaw_sendDown (runningMapLaw_sendSpur hconsumed)
  · split
    · exact runningMapLaw_sendSpur (runningMapLaw_sendDown hconsumed)
    · exact runningMapLaw_sendSpur (runningMapLaw_sendDown h)

/-! ### Commands and steps -/

/-- A command that does nothing while RESET is held low keeps the law if what it does otherwise keeps it. -/
theorem mapLaw_answer {s t : State} {f : State → State} (hs : MapLaw s) (hf : ∀ u, RunningMapLaw u → MapLaw (f u))
    (ht : s.answer f = .next t) : MapLaw t := by
  cases ht
  split
  · exact hs
  · next hlow => exact hf s ((runningMapLaw_iff s).mpr ⟨by simpa using hlow, hs⟩)

/-- The same of a command before which the part takes what is due. -/
theorem mapLaw_settled {s t : State} {f : State → State} (hs : MapLaw s) (hf : ∀ u, RunningMapLaw u → RunningMapLaw (f u))
    (ht : s.settled f = .next t) : MapLaw t :=
  mapLaw_answer hs (fun _ hu => (hf _ (runningMapLaw_settle hu)).mapLaw) ht

/-- R61, R99: the law holds right after the release of RESET. -/
theorem mapLaw_powerOn (rate : BitVec 2) (adr : Addr) (pins : BitVec 12) : MapLaw (State.powerOn rate adr pins) :=
  (RunningMapLaw.of_idle (s := State.powerOn rate adr pins) rfl rfl (fun _ h => nomatch h) (fun ⟨_, h⟩ => nomatch h)
    (passes_reset _ _)).mapLaw

/-- R15: while RESET is held low the law says nothing of the transmitter. -/
theorem mapLaw_assertReset {s : State} (h : RunningMapLaw s) : MapLaw s.assertReset :=
  ⟨fun hlow => absurd hlow (by simp [State.assertReset]), h.active, h.pending⟩

/-- R60: every command keeps the law. -/
theorem mapLaw_exec {i : Instr} {s t : State} (hs : MapLaw s) (ht : exec i s = .next t) : MapLaw t := by
  cases i with
  | powerOnReset rate adr pins => cases ht; exact mapLaw_powerOn rate adr pins
  | resetAsserted => exact mapLaw_answer hs (fun _ hu => mapLaw_assertReset (runningMapLaw_settle hu)) ht
  | receiveUnit p u => exact mapLaw_settled hs (fun _ hu => runningMapLaw_receive hu p u) ht
  | takeFrame p e ds => exact mapLaw_settled hs (fun _ hu => runningMapLaw_arrive hu p e ds) ht
  | transmitterReady o =>
    cases o with
    | downstream => exact mapLaw_settled hs (fun u hu => hu.of_keepsMap (keepsMap_readyDown u)) ht
    | spur => exact mapLaw_settled hs (fun u hu => hu.of_keepsMap (keepsMap_readySpur u)) ht
  | frameDeparts => exact mapLaw_settled hs (fun _ hu => runningMapLaw_departDown hu) ht
  | spurFrameDeparts => exact mapLaw_settled hs (fun u hu => hu.of_keepsMap (keepsMap_departSpur u)) ht
  | lineSample pins => exact mapLaw_settled hs (fun u hu => hu.of_keepsMap (keepsMap_sampleLines u pins)) ht
  | serviceTick => exact mapLaw_settled hs (fun u hu => hu.of_keepsMap (keepsMap_tick u)) ht
  | runGapExpiry | swap | upstreamSilence | upstreamRestore | spurWatchExpiry | spurRestore =>
    exact mapLaw_answer hs (fun _ hu => (runningMapLaw_takeDue hu _).mapLaw) ht
  | _ => exact mapLaw_settled hs (fun _ hu => runningMapLaw_arriveOwn hu _ _ _) ht

/-- R60: every step keeps the law. -/
theorem mapLaw_step {s t : State} (hs : MapLaw s) (ht : step s = .next t) : MapLaw t := by
  unfold step at ht
  split at ht
  · cases ht
    unfold State.idle
    split
    · exact hs
    · next hlow =>
      have hrun : RunningMapLaw s := (runningMapLaw_iff s).mpr ⟨by simpa using hlow, hs⟩
      exact (runningMapLaw_unitTime (runningMapLaw_settle hrun)).mapLaw
  · next c rest _ => exact mapLaw_exec (s := { s with pending := rest }) hs ht

/-- Settles O53: the law holds with the reset contents, and every step keeps it. -/
theorem activeBankStaysValid : Obligations.ActiveBankStaysValid :=
  ⟨mapLaw_powerOn, fun _ _ ht hs => mapLaw_step hs ht⟩

end Sys2Proof.Proofs

/-! ## The moves of the map store (R37 to R41, R44, R61, R64)

All that a step can do to the map store is a run of the moves that the manual names. So what each of these moves keeps of the banks,
every step keeps. -/

namespace Sys2Proof.Proofs

open Sys2Proof Sys2Proof.Machine

/-- One move of the map store: a reset (R61), a swap (R40), COPY ACTIVE (R41), or a load into the staging bank (R44, R64), whose
patterns stay in their page (R143). -/
inductive MapMove (m : MapStore) : MapStore → Prop where
  | reset : MapMove m .reset
  | exchange : MapMove m m.exchange
  | copyActive : MapMove m m.copyActive
  | loadEntry (a : Addr) (e : Entry) : MapMove m (m.loadEntry a e)
  | loadBlock (a : Addr) (last : Digit) (e : Entry) : MapMove m (m.loadBlock a last e)
  | loadPatterns (p : Fin 8) (i : Nat) (vs : List Pattern) (hfit : i + vs.length ≤ 32) : MapMove m (m.loadPatterns p i vs)

/-- The map store of `t` is that of `s` after some moves. -/
def MapReaches (s t : State) : Prop := Relation.ReflTransGen MapMove s.map t.map

theorem MapReaches.trans {s t u : State} (h : MapReaches s t) (k : MapReaches t u) : MapReaches s u :=
  Relation.ReflTransGen.trans h k

theorem MapReaches.of_eq {s t : State} (h : t.map = s.map) : MapReaches s t := by
  rw [MapReaches, h]

theorem MapReaches.refl (s : State) : MapReaches s s := .of_eq rfl

theorem MapReaches.of_move {s t : State} (h : MapMove s.map t.map) : MapReaches s t := Relation.ReflTransGen.single h

theorem MapReaches.of_keepsMap {s t : State} (k : KeepsMap s t) : MapReaches s t := .of_eq k.map

/-- An operation that goes on without a change of the map store. -/
theorem MapReaches.and_keeps {s t u : State} (h : MapReaches s t) (k : KeepsMap t u) : MapReaches s u :=
  h.trans (.of_keepsMap k)

/-! ### Operations that leave the map store as it is, whatever the reply slot holds -/

theorem spurOpens_map (s : State) : s.spurOpens.map = s.map := by
  unfold State.spurOpens
  split
  · exact (((keepsMap_truncate _ _).trans (keepsMap_count _ _)).trans
      (keepsMap_eitherOrder (fun u => keepsMap_latch u _) keepsMap_examineBreak _)).map
  · rfl

theorem spurCloses_map (s : State) : s.spurCloses.map = s.map := by
  unfold State.spurCloses
  split
  · exact ((keepsMap_count _ _).trans (keepsMap_examineBreak _)).map
  · rfl

@[simp] theorem answerWith_map (s : State) (f : Frame) (status : Digit) (data : List Digit) :
    (s.answerWith f status data).map = s.map := State.fillReply_map _ _

@[simp] theorem reply_map (s : State) (f : Frame) (payload : List Digit) : (s.reply f payload).map = s.map :=
  State.fillReply_map _ _

@[simp] theorem enableSpur_map (s : State) (watch : Digit) : (s.enableSpur watch).map = s.map := by
  unfold State.enableSpur; split <;> rfl

@[simp] theorem disableSpur_map (s : State) (watch : Digit) : (s.disableSpur watch).map = s.map := by
  unfold State.disableSpur
  split
  · rfl
  · exact (keepsMap_discardReports _ _).map

@[simp] theorem doSetSpur_map (s : State) (f : Frame) (enable : Bool) (watch : Digit) :
    (s.doSetSpur f enable watch).map = s.map := by
  unfold State.doSetSpur
  split
  · simp
  · split
    · simp
    · split <;> simp

/-- R148: a TRAFFIC reset keeps the banks. -/
theorem trafficReset_map (s : State) : s.trafficReset.map = s.map := by
  have hconsume : (if s.line.reportMode = .event then s.consume else s).map = s.map := by split <;> rfl
  have hflush (u : State) : u.trafficFlush.map = u.map := by simp [State.trafficFlush, State.closeRun]
  have hnotify (u : State) : KeepsMap u ((u.discardBreaks s.trafficLosses).eitherOrder
      (fun v => v.discardReports s.trafficLosses) State.examineBreak) :=
    (keepsMap_discardBreaks u _).trans (keepsMap_eitherOrder (f := fun v => v.discardReports s.trafficLosses)
      (fun v => keepsMap_discardReports v _) keepsMap_examineBreak _)
  exact (hnotify _).map.trans ((hflush _).trans hconsume)

/-- R61, R148: a FULL reset resets the map store. -/
theorem fullReset_map (s : State) : s.fullReset.map = .reset := by
  obtain ⟨u, hreset, -, hmap, -⟩ := fullReset_eq_resetEnds s
  rw [hreset]
  exact (keepsMap_examineBreak u).map.trans hmap

theorem removeHead_map (s : State) (src : Source) : (s.removeHead src).map = s.map := by cases src <;> rfl

theorem departDown_map (s : State) : s.departDown.map = s.map := by
  unfold State.departDown
  split
  · dsimp only; split
    · exact (keepsMap_notifyDeparture _ _).map.trans (removeHead_map _ _)
    · exact removeHead_map _ _
  · rfl
  · rfl

theorem sendDown_map (s : State) : s.sendDown.map = s.map := by
  unfold State.sendDown
  split
  · split
    · exact (keepsMap_readyDown s).map
    · rfl
  · rfl
  · split
    · exact departDown_map s
    · rfl

theorem unitTime_map (s : State) : s.unitTime.map = s.map := by
  have hspur (u : State) : u.sendSpur.map = u.map := (keepsMap_sendSpur u).map
  unfold State.unitTime
  split
  · exact (sendDown_map _).trans (hspur _)
  · split <;> exact (hspur _).trans (sendDown_map _)

/-! ### The swap and the events that are due (R39, R40) -/

theorem mapReaches_swap (s : State) : MapReaches s s.swap := by
  unfold State.swap
  split
  · exact .refl s
  · refine .of_move ?_
    rw [State.fillReply_map]
    exact .exchange

theorem mapReaches_toldSilent (s : State) : MapReaches s s.toldSilent :=
  (MapReaches.of_eq (t := (s.truncate .upstream).closeRun) (keepsMap_truncate s _).map).trans (mapReaches_swap _)

theorem mapReaches_becomeSilent (s : State) : MapReaches s s.becomeSilent := by
  unfold State.becomeSilent
  split
  · extract_lets _ t u
    have ht : MapReaches s t := .of_eq rfl
    have hu : MapReaches s u := .of_eq (State.rawLatch_map _ _)
    clear_value u t
    split
    · split
      · exact ((hu.and_keeps (keepsMap_tellEdge _ _)).trans (mapReaches_toldSilent _)).and_keeps (keepsMap_examineBreak _)
      · exact (hu.trans (mapReaches_toldSilent _)).and_keeps ((keepsMap_tellEdge _ _).trans (keepsMap_examineBreak _))
      · exact (hu.trans (mapReaches_toldSilent _)).and_keeps ((keepsMap_examineBreak _).trans (keepsMap_tellEdge _ _))
    · exact ((ht.and_keeps (keepsMap_latch _ _)).trans (mapReaches_toldSilent _)).and_keeps (keepsMap_examineBreak _)
  · exact .refl s

theorem mapReaches_perform (s : State) (d : Due) : MapReaches s (s.perform d) := by
  cases d with
  | runGapExpiry => exact .of_eq rfl
  | swap => exact mapReaches_swap s
  | upstreamSilence => exact mapReaches_becomeSilent s
  | upstreamRestore => exact .of_keepsMap (keepsMap_becomeLive s)
  | spurWatchExpiry => exact .of_eq (spurOpens_map s)
  | spurRestore => exact .of_eq (spurCloses_map s)

theorem mapReaches_foldl_perform (ds : List Due) (s : State) : MapReaches s (ds.foldl State.perform s) := by
  induction ds generalizing s with
  | nil => exact .refl s
  | cons d rest ih => exact (mapReaches_perform s d).trans (ih _)

theorem mapReaches_settle (s : State) : MapReaches s s.settle :=
  (MapReaches.of_eq (t := s.setDue []) rfl).trans (mapReaches_foldl_perform _ _)

theorem mapReaches_takeDue (s : State) (d : Due) : MapReaches s (s.takeDue d) := by
  unfold State.takeDue
  split
  · exact (MapReaches.of_eq (t := s.setDue (s.due.erase d)) rfl).trans (mapReaches_perform _ d)
  · exact .refl s

/-! ### Management commands (chapter 8) -/

theorem unless_eq_command_iff (bad : Bool) (c d : Command) :
    Parsed.unless bad c = .command d ↔ bad = false ∧ c = d := by
  cases bad <;> simp [Parsed.unless]

/-- R63: two digits make a pattern. -/
theorem length_patternsOf : ∀ ds : List Digit, (patternsOf ds).length = ds.length / 2
  | [] => rfl
  | [_] => by simp [patternsOf]
  | h :: l :: rest => by
    simp only [patternsOf, List.length_cons, length_patternsOf rest]
    omega

/-- R142, R143: a LOAD PATTERNS that is in order stays in its page. -/
theorem parseLoadPatterns_fits {args : List Digit} {p : Fin 8} {i : Nat} {vs : List Pattern}
    (h : parseLoadPatterns args = .command (.loadPatterns p i vs)) : i + vs.length ≤ 32 := by
  unfold parseLoadPatterns at h
  split at h
  · split_ifs at h with _ hlength
    simp only [unless_eq_command_iff, Bool.or_eq_false_iff, decide_eq_false_iff_not, Command.loadPatterns.injEq] at h
    obtain ⟨⟨-, hindex⟩, -, rfl, rfl⟩ := h
    rw [length_patternsOf]
    omega
  · cases h

/-- R18, R143: of the sixteen commands that a digit and its arguments can be, only LOAD PATTERNS loads patterns, and it stays in its
page. -/
theorem parseCommand_fits {own : Addr} {code : Digit} {args : List Digit} {p : Fin 8} {i : Nat} {vs : List Pattern}
    (h : parseCommand own code args = .command (.loadPatterns p i vs)) : i + vs.length ≤ 32 := by
  unfold parseCommand at h
  split at h
  case h_4 => exact parseLoadPatterns_fits h
  all_goals
    simp only [parseReset, parseLoadEntry, parseLoadBlock, parseBare, parseReadEntry, parseReadPatterns, parseReadCounters,
      parseClear, parseSetLine, parseSetReporting, parseSetSpur, parseSetOptions, parseSetManager] at h
    split at h <;> simp [unless_eq_command_iff] at h

theorem mapReaches_doCommit (s : State) (f : Frame) : MapReaches s (s.doCommit f) := by
  unfold State.doCommit
  split
  · exact .of_eq (answerWith_map _ _ _ _)
  · unfold State.acceptCommit
    dsimp only
    split
    · exact MapReaches.trans (.of_eq (by rfl)) (mapReaches_swap _)
    · exact .of_eq rfl

/-- R146, R148, R154: the commands that change the map store. -/
theorem mapReaches_execute (s : State) (f : Frame) (c : Command)
    (hfit : ∀ p i vs, c = .loadPatterns p i vs → i + vs.length ≤ 32) : MapReaches s (s.execute f c) := by
  have hanswer {u : State} (h : MapReaches s u) (data : List Digit) : MapReaches s (u.answerWith f statusOk data) :=
    h.trans (.of_eq (answerWith_map _ _ _ _))
  have hmove {m : MapStore} (h : MapMove s.map m) : MapReaches s ((s.setMap m).answerWith f statusOk []) :=
    hanswer (.of_move h) []
  cases c with
  | reset full =>
    cases full with
    | false => exact hanswer (.of_eq (trafficReset_map s)) _
    | true => exact hanswer (.of_move (by rw [if_pos rfl, fullReset_map]; exact .reset)) _
  | loadEntry a e => exact hmove (.loadEntry a e)
  | loadBlock a last e => exact hmove (.loadBlock a last e)
  | loadPatterns p i vs => exact hmove (.loadPatterns p i vs (hfit p i vs rfl))
  | copyActive => exact hmove .copyActive
  | commit => exact mapReaches_doCommit s f
  | setReporting mode a code => exact hanswer (.of_keepsMap (keepsMap_setReporting _ _ _ _)) _
  | setSpur enable watch => exact .of_eq (doSetSpur_map _ _ _ _)
  | _ => exact hanswer (.of_eq (by rfl)) _

theorem mapReaches_manage (s : State) (f : Frame) : MapReaches s (s.manage f) := by
  unfold State.manage
  split
  · exact .of_keepsMap (keepsMap_count_latch _ _ _)
  · split
    · exact .of_eq (reply_map _ _ _)
    · split
      · exact .of_eq (reply_map _ _ _)
      · split
        · exact .of_eq (answerWith_map _ _ _ _)
        · exact .of_eq (answerWith_map _ _ _ _)
        · next c hparse => exact mapReaches_execute s f c fun p i vs hc => parseCommand_fits (hc ▸ hparse)

/-! ### Frames and units (R8 to R11, R20 to R24) -/

theorem mapReaches_ownFrame (s : State) (f : Frame) : MapReaches s (s.ownFrame f) := by
  unfold State.ownFrame
  cases kindOf f.kind with
  | write | adjust =>
    dsimp only; split
    · exact .of_keepsMap (keepsMap_malformedEvent s)
    · exact .of_keepsMap (keepsMap_ownCells _ _ _ _)
  | read =>
    dsimp only; split
    · split
      · exact .of_keepsMap (keepsMap_malformedEvent s)
      · exact .of_keepsMap (keepsMap_ownRead _ _ _ _ _)
    · exact .of_keepsMap (keepsMap_malformedEvent s)
  | mgmt =>
    dsimp only; split
    · exact .of_keepsMap (keepsMap_malformedEvent s)
    · exact mapReaches_manage s f
  | _ => exact .of_keepsMap (keepsMap_count _ _)

theorem mapReaches_takeIntact (s : State) (p : Port) (f : Frame) : MapReaches s (s.takeIntact p f) := by
  have hrestored : MapReaches s (s.restoreByFrame p) := by
    cases p with
    | upstream => exact .of_keepsMap (keepsMap_becomeLive s)
    | spur => exact .of_eq (spurCloses_map s)
  refine hrestored.trans ?_
  unfold State.takeIntact
  dsimp only
  generalize s.restoreByFrame p = t
  split
  · exact .of_keepsMap ((keepsMap_noRun t p).trans (keepsMap_count _ _))
  · split
    · exact (MapReaches.of_keepsMap (keepsMap_noRun t p)).trans (mapReaches_ownFrame _ f)
    · cases p with
      | upstream => exact .of_keepsMap (keepsMap_mainPath t f)
      | spur => exact .of_keepsMap (keepsMap_placeAsIs _ _ _)

theorem mapReaches_take (s : State) (p : Port) (e : Ending) (ds : List Digit) : MapReaches s (s.take p e ds) := by
  unfold State.take
  split
  · exact .of_keepsMap ((keepsMap_noRun s p).trans (keepsMap_malformedEvent _))
  · exact .of_keepsMap (keepsMap_takeDamaged s p ds)
  · exact mapReaches_takeIntact s p _

theorem mapReaches_complete (s : State) (p : Port) (e : Ending) (ds : List Digit) (after : Receiver) :
    MapReaches s (s.complete p e ds after) := by
  cases p with
  | upstream =>
    have hdue (t : State) : MapReaches t (if t.mgmt.commit.isSome then t.addDue .swap else t) := by
      split <;> exact .of_eq rfl
    exact (mapReaches_take ((s.setRx .upstream after).setGapCount 0) _ _ _).trans (hdue _)
  | spur => exact mapReaches_take (s.setRx .spur after) _ _ _

theorem mapReaches_assembleUnit (s : State) (p : Port) (u : UnitClass) : MapReaches s (s.assembleUnit p u) := by
  cases u with
  | data d =>
    simp only [State.assembleUnit]
    split
    · exact .of_keepsMap (keepsMap_setRx _ _ _)
    · exact mapReaches_complete _ _ _ _ _
  | _ => exact mapReaches_complete _ _ _ _ _

theorem mapReaches_receive (s : State) (p : Port) (u : LineUnit) : MapReaches s (s.receive p u) := by
  have hreported : MapReaches s (s.report p (classOf u)) := .of_keepsMap (keepsMap_report _ _ _)
  unfold State.receive
  split
  · exact .refl s
  · dsimp only; split
    · exact hreported.and_keeps (keepsMap_huntUnit _ _ _)
    · exact hreported.trans (mapReaches_assembleUnit _ _ _)
    · exact hreported.and_keeps (keepsMap_skipUnit _ _ _)

theorem mapReaches_startArrives (s : State) (p : Port) : MapReaches s (s.startArrives p) := by
  have hreported : MapReaches s (s.report p .start) := .of_keepsMap (keepsMap_report _ _ _)
  unfold State.startArrives
  dsimp only
  split
  · exact (hreported.trans (mapReaches_complete _ _ _ _ _)).trans (mapReaches_settle _)
  · exact hreported

theorem mapReaches_arrive (s : State) (p : Port) (e : Ending) (ds : List Digit) : MapReaches s (s.arrive p e ds) := by
  unfold State.arrive
  split
  · exact .refl s
  · exact (mapReaches_startArrives s p).trans (mapReaches_complete _ _ _ _ _)

theorem mapReaches_arriveOwn (s : State) (q : Requester) (kind : Digit) (payload : List Digit) :
    MapReaches s (s.arriveOwn q kind payload) := mapReaches_arrive _ _ _ _

/-! ### Commands and steps -/

theorem mapReaches_answer {s t : State} {f : State → State} (hf : ∀ u, MapReaches u (f u)) (ht : s.answer f = .next t) :
    MapReaches s t := by
  cases ht
  split
  · exact .refl s
  · exact hf s

theorem mapReaches_settled {s t : State} {f : State → State} (hf : ∀ u, MapReaches u (f u)) (ht : s.settled f = .next t) :
    MapReaches s t :=
  mapReaches_answer (fun u => (mapReaches_settle u).trans (hf _)) ht

/-- What a command does to the map store is a run of moves. -/
theorem mapReaches_exec {i : Instr} {s t : State} (ht : exec i s = .next t) : MapReaches s t := by
  cases i with
  | powerOnReset rate adr pins => cases ht; exact .of_move .reset
  | resetAsserted => exact mapReaches_settled (f := State.assertReset) (fun _ => .of_eq rfl) ht
  | receiveUnit p u => exact mapReaches_settled (fun _ => mapReaches_receive _ p u) ht
  | takeFrame p e ds => exact mapReaches_settled (fun _ => mapReaches_arrive _ p e ds) ht
  | transmitterReady o =>
    cases o with
    | downstream => exact mapReaches_settled (fun u => .of_keepsMap (keepsMap_readyDown u)) ht
    | spur => exact mapReaches_settled (fun u => .of_keepsMap (keepsMap_readySpur u)) ht
  | frameDeparts => exact mapReaches_settled (fun u => .of_eq (departDown_map u)) ht
  | spurFrameDeparts => exact mapReaches_settled (fun u => .of_keepsMap (keepsMap_departSpur u)) ht
  | lineSample pins => exact mapReaches_settled (fun u => .of_keepsMap (keepsMap_sampleLines u pins)) ht
  | serviceTick => exact mapReaches_settled (fun u => .of_keepsMap (keepsMap_tick u)) ht
  | runGapExpiry | swap | upstreamSilence | upstreamRestore | spurWatchExpiry | spurRestore =>
    exact mapReaches_answer (fun u => mapReaches_takeDue u _) ht
  | _ => exact mapReaches_settled (fun _ => mapReaches_arriveOwn _ _ _ _) ht

/-- What a step does to the map store is a run of moves. -/
theorem mapReaches_step {s t : State} (ht : step s = .next t) : MapReaches s t := by
  unfold step at ht
  split at ht
  · cases ht
    unfold State.idle
    split
    · exact .refl s
    · exact (mapReaches_settle s).trans (.of_eq (unitTime_map _))
  · next c rest _ => exact mapReaches_exec (s := { s with pending := rest }) ht

end Sys2Proof.Proofs

/-! ## Pages without their valid flag (R61, R64, R67)

A law of one bank that holds of the reset contents and that the loads keep holds of both banks for good, since the other moves only
exchange and copy banks. R67 is such a law of a bank in canonical form: what writes into a page sets its flag. -/

namespace Sys2Proof.Proofs

open Sys2Proof Sys2Proof.Machine

/-! ### Loads into a page -/

theorem wf_putPatterns {b : Bank} (hb : b.wf = true) (p : Fin 8) {i : Nat} {vs : List Pattern} (hfit : i + vs.length ≤ 32) :
    (b.putPatterns p i vs).wf = true := by
  induction vs generalizing b i with
  | nil => exact hb
  | cons v rest ih =>
    rw [List.length_cons] at hfit
    exact ih (Bank.wf_setPattern hb p i (by omega) v) (by omega)

@[simp] theorem isValid_putPatterns (b : Bank) (p q : Fin 8) (i : Nat) (vs : List Pattern) :
    (b.putPatterns p i vs).isValid q = b.isValid q := by
  induction vs generalizing b i with
  | nil => rfl
  | cons v rest ih => exact ih _ _

/-- R64: a load of patterns leaves every other page as it was. -/
theorem pattern_putPatterns_of_ne {b : Bank} (hb : b.wf = true) {p q : Fin 8} (hq : q ≠ p) {i j : Nat} (hj : j < 32)
    {vs : List Pattern} (hfit : i + vs.length ≤ 32) : (b.putPatterns p i vs).pattern q j = b.pattern q j := by
  induction vs generalizing b i with
  | nil => rfl
  | cons v rest ih =>
    rw [List.length_cons] at hfit
    have hi : i < 32 := by omega
    calc ((b.setPattern p i v).putPatterns p (i + 1) rest).pattern q j
      _ = (b.setPattern p i v).pattern q j := ih (Bank.wf_setPattern hb p i hi v) (by omega)
      _ = b.pattern q j := by rw [Bank.pattern_setPattern hb p q i j hi hj, if_neg (fun h => hq h.1)]

/-! ### Laws of banks -/

/-- A law of one bank that the reset contents obey and every load keeps. -/
structure BankLaw (P : Bank → Prop) : Prop where
  reset : P .reset
  setEntry {b : Bank} (a : Addr) (e : Entry) : P b → P (b.setEntry a e)
  loadPatterns {b : Bank} (p : Fin 8) {i : Nat} {vs : List Pattern} (hfit : i + vs.length ≤ 32) :
    P b → P ((b.putPatterns p i vs).setValid p)

/-- Both banks obey a law. -/
def BothBanks (P : Bank → Prop) (m : MapStore) : Prop := P m.bankA ∧ P m.bankB

theorem bothBanks_iff_roles (P : Bank → Prop) (m : MapStore) : BothBanks P m ↔ P m.activeBank ∧ P m.stagingBank := by
  unfold BothBanks MapStore.activeBank MapStore.stagingBank
  cases m.active
  · exact Iff.rfl
  · exact and_comm

theorem bothBanks_setStaging {P : Bank → Prop} {m : MapStore} {b : Bank} (hm : BothBanks P m) (hb : P b) :
    BothBanks P (m.setStaging b) := by
  rw [bothBanks_iff_roles] at hm ⊢
  simpa [hb] using hm.1

theorem BankLaw.foldl_setEntry {P : Bank → Prop} (hP : BankLaw P) {ι : Type} (place : ι → Addr) (e : Entry) (cols : List ι)
    {b : Bank} (hb : P b) : P (cols.foldl (fun c i => c.setEntry (place i) e) b) := by
  induction cols generalizing b with
  | nil => exact hb
  | cons i rest ih => exact ih (hP.setEntry _ e hb)

theorem BankLaw.move {P : Bank → Prop} (hP : BankLaw P) {m m' : MapStore} (h : MapMove m m') (hm : BothBanks P m) :
    BothBanks P m' := by
  obtain ⟨hactive, hstaging⟩ := (bothBanks_iff_roles P m).mp hm
  cases h with
  | reset => exact ⟨hP.reset, hP.reset⟩
  | exchange => exact hm
  | copyActive => exact bothBanks_setStaging hm hactive
  | loadEntry a e => exact bothBanks_setStaging hm (hP.setEntry a e hstaging)
  | loadBlock a last e => exact bothBanks_setStaging hm (hP.foldl_setEntry _ e _ hstaging)
  | loadPatterns p i vs hfit => exact bothBanks_setStaging hm (hP.loadPatterns p hfit hstaging)

theorem BankLaw.moves {P : Bank → Prop} (hP : BankLaw P) {m m' : MapStore} (h : Relation.ReflTransGen MapMove m m')
    (hm : BothBanks P m) : BothBanks P m' := by
  induction h with
  | refl => exact hm
  | tail _ hmove ih => exact hP.move hmove ih

/-- Every step keeps a law of the banks. -/
theorem BankLaw.step {P : Bank → Prop} (hP : BankLaw P) {s t : State} (ht : step s = .next t) :
    BothBanks P s.map → BothBanks P t.map := hP.moves (mapReaches_step ht)

theorem BankLaw.powerOn {P : Bank → Prop} (hP : BankLaw P) (rate : BitVec 2) (adr : Addr) (pins : BitVec 12) :
    BothBanks P (State.powerOn rate adr pins).map := ⟨hP.reset, hP.reset⟩

theorem bankLaw_canonical : BankLaw fun b => b.wf = true where
  reset := Bank.wf_reset
  setEntry a e hb := Bank.wf_setEntry hb a e
  loadPatterns p _ _ hfit hb := Bank.wf_setValid (wf_putPatterns hb p hfit) p

/-- R67: a page that is still without its flag after a load of patterns is another page than the loaded one. -/
theorem pagesLaw_loadPatterns {b : Bank} (hb : b.wf = true) (h : b.PagesLaw) (p : Fin 8) {i : Nat} {vs : List Pattern}
    (hfit : i + vs.length ≤ 32) : ((b.putPatterns p i vs).setValid p).PagesLaw := by
  intro q j hclear
  rw [Bank.isValid_setValid, isValid_putPatterns, Bool.or_eq_false_iff, decide_eq_false_iff_not] at hclear
  obtain ⟨hflag, hq⟩ := hclear
  rw [Bank.pattern_setValid, pattern_putPatterns_of_ne hb hq j.isLt hfit]
  exact h q j hflag

theorem bankLaw_pages : BankLaw fun b => b.wf = true ∧ b.PagesLaw where
  reset := ⟨Bank.wf_reset, fun _ _ _ => rfl⟩
  setEntry a e := fun ⟨hb, h⟩ => ⟨Bank.wf_setEntry hb a e, h⟩
  loadPatterns p _ _ hfit := fun ⟨hb, h⟩ => ⟨bankLaw_canonical.loadPatterns p hfit hb, pagesLaw_loadPatterns hb h p hfit⟩

/-- R67 for both banks in canonical form, as one law of the banks. -/
theorem bothBanks_pages_iff (s : State) :
    BothBanks (fun b => b.wf = true ∧ b.PagesLaw) s.map ↔ BanksCanonical s ∧ PagesLaw s := and_and_and_comm

/-- Settles O54: what a step does to the map store is a run of moves, and every move keeps both laws of the banks. -/
theorem clearPagesStayBlank : Obligations.ClearPagesStayBlank := by
  refine ⟨fun rate adr pins => (bothBanks_pages_iff _).mp (bankLaw_pages.powerOn rate adr pins), fun s t ht => ⟨?_, ?_⟩⟩
  · exact bankLaw_canonical.step ht
  · intro hcanonical hpages
    exact ((bothBanks_pages_iff t).mp (bankLaw_pages.step ht ((bothBanks_pages_iff s).mpr ⟨hcanonical, hpages⟩))).2

end Sys2Proof.Proofs

/-! ## The layout and the check of a frame (R3, R4, R21, R22) -/

namespace Sys2Proof.Proofs

open Sys2Proof Sys2Proof.Machine

/-- R5: a row is 0 to 7. -/
theorem rowOf_toNat_le (a : Addr) : (rowOf a).toNat ≤ 7 := by
  revert a; decide

theorem badRow_eq_false_iff (d : Digit) : badRow d = false ↔ d.toNat ≤ 7 := by
  simp [badRow, BitVec.lt_def]

/-- R4: a digit sum and two check digits that together give a multiple of 256 are the check value's own digits. -/
theorem checkDigits_eq_of_sum {body : List Digit} {h l : Digit} (hsum : (digitSum body + 16 * h.toNat + l.toNat) % 256 = 0) :
    checkDigits body = [h, l] := by
  have hh := h.isLt
  have hl := l.isLt
  have hhigh : checkValue body / 16 = h.toNat := by unfold checkValue; omega
  have hlow : checkValue body % 16 = l.toNat := by unfold checkValue; omega
  simp only [checkDigits, hhigh, BitVec.ofNat_toNat, BitVec.setWidth_eq, List.cons.injEq, and_true, true_and]
  exact BitVec.eq_of_toNat_eq (by rw [BitVec.toNat_ofNat]; exact hlow)

/-- R4: a check that verifies is the one that the part would set. -/
theorem checkVerifies_append_iff (body : List Digit) (h l : Digit) :
    checkVerifies (body ++ [h, l]) = true ↔ checkDigits body = [h, l] := by
  refine ⟨fun hv => checkDigits_eq_of_sum ?_, fun he => he ▸ checkVerifies_checkDigits body⟩
  have hn : (body ++ [h, l]).length - 2 = body.length := by simp
  rw [checkVerifies, hn, List.drop_left, List.take_left] at hv
  simpa using hv

/-- R3, R21, R22: digits found intact are those of a frame in the layout of R3, with the check of R4. -/
theorem eq_digits_of_classify {e : Ending} {ds : List Digit} {f : Frame} (h : classify e ds = .intact f) :
    e = .ended ∧ f.payload.length ≤ 15 ∧ ds = f.digits := by
  unfold classify at h
  by_cases he : e = .ended
  case neg => simp [he] at h
  rw [if_neg (not_not_intro he)] at h
  refine ⟨he, ?_⟩
  split at h
  · next kind dr dc sr sc seq len rest =>
    split_ifs at h with hbad hv
    simp only [Bool.or_eq_true, decide_eq_true_eq, not_or, ne_eq, not_not, Bool.not_eq_true] at hbad
    obtain ⟨⟨hlen, hdr⟩, hsr⟩ := hbad
    obtain ⟨payload, check, hrest, hpayload⟩ : ∃ payload check, rest = payload ++ check ∧ payload.length = len.toNat :=
      ⟨rest.take len.toNat, rest.drop len.toNat, (List.take_append_drop _ _).symm, by rw [List.length_take]; omega⟩
    obtain ⟨h', l', rfl⟩ : ∃ h' l', check = [h', l'] :=
      List.length_eq_two.mp (by rw [hrest, List.length_append] at hlen; omega)
    subst hrest
    rw [List.take_left' hpayload, Classified.intact.injEq] at h
    subst h
    have hcheck := (checkVerifies_append_iff ([kind, dr, dc, sr, sc, seq, len] ++ payload) h' l').mp (by simpa using hv)
    have hlt := len.isLt
    refine ⟨by simp only [hpayload]; omega, ?_⟩
    simp only [Frame.digits, Frame.body, rowOf_addrOf _ _ hdr, rowOf_addrOf _ _ hsr, colOf_addrOf, hpayload,
      BitVec.ofNat_toNat, BitVec.setWidth_eq, List.cons_append, List.nil_append] at hcheck ⊢
    rw [hcheck]
  · simp at h

/-- R3: a frame's digits determine the frame, as far as it may be sent. -/
theorem frame_eq_of_classify_digits {f g : Frame} (h : classify .ended g.digits = .intact f) : f = g := by
  obtain ⟨-, hlen, hdigits⟩ := eq_digits_of_classify h
  have hlength := congrArg List.length hdigits
  rw [Frame.digits_length, Frame.digits_length] at hlength
  rw [classify_digits g (by omega), Classified.intact.injEq] at h
  exact h.symm

/-- Settles O11: what is found intact has the layout and the check of its frame, and `classify_digits` is the converse. -/
theorem intactExactlyWhenWellFormed : Obligations.IntactExactlyWhenWellFormed := by
  intro e ds f
  refine ⟨eq_digits_of_classify, ?_⟩
  rintro ⟨rfl, hlen, rfl⟩
  exact classify_digits f hlen

/-- R14: a frame of at most 15 payload digits may be sent. -/
theorem sendable_digits {f : Frame} (h : f.payload.length ≤ 15) : Sendable f.digits := by
  have hlen : (f.digits.getD 6 0#4).toNat = f.payload.length := by
    simp [Frame.digits, Frame.body]; omega
  refine ⟨by simp, by simp; omega, ?_, ?_, by rw [hlen, Frame.digits_length, Nat.add_comm]⟩
  · simpa [Frame.digits, Frame.body] using rowOf_toNat_le f.dst
  · simpa [Frame.digits, Frame.body] using rowOf_toNat_le f.src

/-- R21: a completed frame is found malformed exactly under the conditions of R21. -/
theorem classify_eq_malformed_iff (e : Ending) (ds : List Digit) : classify e ds = .malformed ↔ MalformedFrame e ds := by
  unfold classify MalformedFrame
  by_cases he : e = .ended
  case neg => simp [he]
  rw [if_neg (not_not_intro he)]
  split
  · next kind dr dc sr sc seq len rest =>
    have hbad : (rest.length ≠ len.toNat + 2 || badRow dr || badRow sr) = true ↔
        rest.length ≠ len.toNat + 2 ∨ 7 < dr.toNat ∨ 7 < sr.toNat := by
      simp [badRow, BitVec.lt_def, or_assoc]
    split_ifs with h hv
    all_goals
      rw [hbad] at h
      simp [he]
      omega
  · next hshort =>
    have hlen : ds.length < 9 := by
      match ds, hshort with
      | [], _ | [_], _ | [_, _], _ | [_, _, _], _ | [_, _, _, _], _ | [_, _, _, _, _], _ | [_, _, _, _, _, _], _ => simp
      | _ :: _ :: _ :: _ :: _ :: _ :: _ :: _, h => exact absurd rfl (h _ _ _ _ _ _ _ _)
    simp [he, hlen]

end Sys2Proof.Proofs

/-! ## What a step is made of (chapters 1 to 9)

A step is a run of moves, each with the condition under which the part makes it. `Work` holds what every block does in the course of a
frame, a unit or a tick; `Change` adds the changes of the upstream and spur states and the swap; `Sending` adds the transmitters; and
`Move` adds what the management commands do. The decomposition is proved once, below; each law of the machine is then a law of moves. -/

namespace Sys2Proof.Proofs

open Sys2Proof Sys2Proof.Machine

/-- What a step still owes between two moves: the lines of the frames that are gone and whose line unit has not been told (R100,
R101), and the closing of the run of an upstream side that has become SILENT (R161). -/
structure Debt where
  lines : List (Fin 13)
  run : Bool

/-- Nothing is owed. -/
def Debt.nothing : Debt := ⟨[], false⟩

/-- The part in the middle of a step. -/
abbrev Stage := State × Debt

/-- The moves of frames, units, ticks and samples. -/
inductive Work : Stage → Stage → Prop where
  /-- The model's own fields (assumption logs 1, 3 and 4). -/
  | book (s : State) (d : Debt) (due : List Due) (choices : Nat) (pending : List Instr) :
    Work (s, d) ({ s with due := due, choices := choices, pending := pending }, d)
  | gap (s : State) (d : Debt) (n : Nat) (hn : n ≤ 63) : Work (s, d) (s.setGapCount n, d)
  | upCounts (s : State) (d : Debt) (a b : Nat) (ha : a ≤ 15) (hb : b ≤ 64 ∨ b = s.sup.restoreCount) :
    Work (s, d) (s.setSup { s.sup with silenceCount := a, restoreCount := b }, d)
  | spurCounts (s : State) (d : Debt) (a b : Nat) (ha : a ≤ 15) (hb : b ≤ 64 ∨ b = s.spur.restoreCount) :
    Work (s, d) (s.setSpur { s.spur with watchCount := a, restoreCount := b }, d)
  | receiver (s : State) (d : Debt) (p : Port) (r : Receiver) (hr : r.buffer.length ≤ 24)
      (hp : p = .spur → s.spur.state ≠ .disabled) : Work (s, d) (s.setRx p r, d)
  | run (s : State) (d : Debt) (r : RunRecord)
      (hr : r = .closed ∨ s.run.isOpen = true ∨ s.sup.up = .live ∧ s.sup.gap ≠ 0#4) : Work (s, d) (s.setRun r, d)
  | runPaid (s : State) (d : Debt) : Work (s, d) (s.closeRun, { d with run := false })
  | count (s : State) (d : Debt) (c : Counter) : Work (s, d) (s.count c, d)
  | latch (s : State) (d : Debt) (l : Latch) : Work (s, d) (s.rawLatch l, d)
  | edge (s : State) (d : Debt) (l : Fin 13)
      (h : s.addressed = true ∨ ∃ i : Fin 12, (s.line.lines[i]).mode = .catching) :
    Work (s, d) (s.setLines (s.line.edge l), d)
  | sample (s : State) (d : Debt) (lines : Vector Line 12)
      (h : ∀ i : Fin 12, lines[i].mode = (s.line.lines[i]).mode ∧ lines[i].retire = (s.line.lines[i]).retire) :
    Work (s, d) (s.setLines { s.line with lines := lines }, d)
  | cells (s : State) (d : Debt) (v : Vector Digit 3) (h : s.addressed = true) :
    Work (s, d) (s.setLines { s.line with latches := v }, d)
  | event (s : State) (d : Debt) (h : s.eventDue = true) : Work (s, d) (s.buildEvent, d)
  | breakReport (s : State) (d : Debt) (h : s.breakDue = true) : Work (s, d) (s.buildBreak, d)
  | enter (s : State) (d : Debt) (q : Target) (hs : List Held) (hclaim : s.claim q hs.length = true)
      (hheld : ∀ h ∈ hs, h.tag = .none ∧ Sendable h.digits) (hspur : q ≠ .transit → s.spur.state ≠ .disabled) :
    Work (s, d) (s.enter q hs, d)
  | poll (s : State) (d : Debt) (q : Target) (ls : List (Fin 13)) (ds : List Digit) (hclaim : s.claim q 1 = true)
      (hdigits : Sendable ds) (hnodup : ls.Nodup) (hcaught : ∀ l ∈ ls, (s.line.catchOf l).state = .caught)
      (haddr : s.addressed = true) (hq : q ≠ .spurReturn) (hspur : q ≠ .transit → s.spur.state ≠ .disabled) :
    Work (s, d) ((s.setLines (s.line.record ls)).enter q [{ digits := ds, tag := .report ls }], d)
  | readReply (s : State) (d : Debt) (ds : List Digit) (hroom : s.inserted .reply < 2)
      (hkind : (Held.plain ds).kind = .reply) (hdigits : Sendable ds) (haddr : s.addressed = true) :
    Work (s, d) (s.insert (Held.plain ds), d)
  | reply (s : State) (d : Debt) (src : Addr) (seq : Digit) (payload : List Digit) (haddr : s.addressed = true)
      (hlen : 2 ≤ payload.length ∧ payload.length ≤ 15 ∨ ∃ r, s.mgmt.last = some r ∧ r.payload = payload) :
    Work (s, d) (s.fillReply (mgmtReplyFrame s.adr src seq payload).digits, d)
  | last (s : State) (d : Debt) (r : LastCommand) (haddr : s.addressed = true)
      (hlen : 2 ≤ r.payload.length ∧ r.payload.length ≤ 15) : Work (s, d) (s.setMgmt { s.mgmt with last := some r }, d)

/-- The moves of frames and units, the changes of the upstream and spur states, and the swap. -/
inductive Change : Stage → Stage → Prop where
  | work {a b : Stage} (h : Work a b) : Change a b
  | silent (s : State) (d : Debt) :
    Change (s, d) (s.setSup { s.sup with up := .silent, restoreCount := 0 }, { d with run := true })
  | live (s : State) (d : Debt) :
    Change (s, d) (s.setSup { s.sup with up := .live, silenceCount := 0, restoreCount := 0 }, d)
  | spur (s : State) (d : Debt) (x : SpurState) (w : Nat) (hs : s.spur.state ≠ .disabled) (hx : x ≠ .disabled)
      (hw : w = 0 ∨ w = s.spur.watchCount) :
    Change (s, d) (s.setSpur { s.spur with state := x, watchCount := w, restoreCount := 0 }, d)
  | swap (s : State) (d : Debt) (h : s.mgmt.commit ≠ none) : Change (s, d) (s.swap, d)

/-- The notifications owed for the head of a store (R95, R100). -/
def headLines (hs : List Held) : List (Fin 13) := taggedLines (hs.take 1)

/-- The moves of the transmitters (section 1.8), and what the line unit is told of departures. -/
inductive Sending : Stage → Stage → Prop where
  | work {a b : Stage} (h : Work a b) : Sending a b
  | down (s : State) (d : Debt) (tx : Tx) (u : LineUnit)
      (h : tx = s.merge.tx ∨ (∃ n, tx = .fill n) ∨ ∃ src m n, s.merge.tx = .send src m ∧ tx = .send src n) :
    Sending (s, d) (s.setMerge { s.merge with tx := tx, dout := u }, d)
  | out (s : State) (d : Debt) (tx : Tx) (u : LineUnit)
      (h : tx = s.spur.tx ∨ (∃ n, tx = .fill n) ∨ ∃ src m n, s.spur.tx = .send src m ∧ tx = .send src n) :
    Sending (s, d) (s.setSpur { s.spur with tx := tx, sout := u }, d)
  | readyDown (s : State) (d : Debt) (u : LineUnit) :
    Sending (s, d) ((s.setMerge { s.merge with tx := .ready, dout := u }).grantDown, d)
  | readySpur (s : State) (d : Debt) (u : LineUnit) :
    Sending (s, d) ((s.setSpur { s.spur with tx := .ready, sout := u }).grantSpur, d)
  | departDown (s : State) (d : Debt) (src : Source) (n : Nat) (u : LineUnit) (h : s.merge.tx = .send src n) :
    Sending (s, d) ((s.removeHead src).setMerge { (s.removeHead src).merge with tx := .fill 0, dout := u },
      { d with lines := headLines (s.framesOf src) ++ d.lines })
  | departSpur (s : State) (d : Debt) (u : LineUnit) :
    Sending (s, d) (s.setSpur { s.spur with queue := s.spur.queue.drop 1, tx := .fill 0, sout := u },
      { d with lines := headLines s.spur.queue ++ d.lines })
  | told (s : State) (l : Fin 13) (ls : List (Fin 13)) (b : Bool) :
    Sending (s, ⟨l :: ls, b⟩) (s.setLines (s.line.departure l), ⟨ls, b⟩)
  | reset (s : State) (d : Debt) : Sending (s, d) (s.assertReset, d)

/-- R12, R35, R61, R89, R102, R110, R134, R148, R171: a FULL reset before it examines the conditions of a BREAK. -/
def fullFlush (s : State) : State :=
  { s with
    upRx := s.upRx.abandon
    spurRx := .reset
    gapCount := 0
    map := .reset
    run := .closed
    merge := { s.merge with transit := [], spurReturn := [], insertion := [], pointer := 0, tx := .fill 0 }
    spur := { s.spur with
      state := .disabled, watchTime := 4#4, watchCount := 0, restoreCount := 0, queue := [], tx := s.spur.tx.abort }
    line := s.line.fullReset
    mgmt := { s.mgmt with manager0 := none, manager1 := none }
    sup := { s.sup with
      lastUp := .live, lastSpur := .disabled, latches := 0#8, counters := tabulate fun _ => 0#8, policy := .forward,
      gap := 0#4, silenceTime := 4#4 } }

/-- R148, R164: a FULL reset sets every block, examines the conditions of a BREAK, and gives the transmitter back. -/
theorem fullReset_eq_fullFlush (s : State) : s.fullReset = (fullFlush s).examineBreak.releaseTx s.merge.tx.abort := by
  cases s; rfl

/-- R12, R15, R108, R163: an enabled spur that has been disabled, its frames gone, before the line unit is told of them. -/
def spurOff (s : State) (watch : Digit) : State :=
  { s with
    spur := { s.spur with
      state := .disabled, watchTime := watch, watchCount := 0, restoreCount := 0, queue := [], tx := s.spur.tx.abort }
    spurRx := .reset
    sup := { s.sup with lastSpur := .disabled }
    merge := { s.merge with spurReturn := [], tx := s.merge.tx.abortFrom .spurReturn } }

/-- R107, R108: SET SPUR with enable 0h sets the watch time of a DISABLED spur, and disables another and discards its frames. -/
theorem disableSpur_eq (s : State) (watch : Digit) :
    s.disableSpur watch =
      if s.spur.state = .disabled then s.setSpur { s.spur with watchTime := watch }
      else (spurOff s watch).discardReports s.spur.queue := rfl

/-- R12, R35, R89, R101, R111: what a TRAFFIC reset does at once. -/
theorem trafficFlush_eq (s : State) : s.trafficFlush =
    { s with
      upRx := s.upRx.abandon
      spurRx := s.spurRx.abandon
      gapCount := 0
      run := .closed
      merge := { s.merge with transit := [], spurReturn := [], insertion := [], pointer := 0, tx := .fill 0 }
      spur := { s.spur with queue := [], tx := s.spur.tx.abort } } := by
  cases s; rfl

/-- Everything that a step does but for a power-on reset. The last constructors are those of management commands, which an addressed
part alone carries out. -/
inductive Move : Stage → Stage → Prop where
  | change {a b : Stage} (h : Change a b) : Move a b
  | sending {a b : Stage} (h : Sending a b) : Move a b
  | map (s : State) (d : Debt) (m : MapStore) (haddr : s.addressed = true) : Move (s, d) (s.setMap m, d)
  | settings (s : State) (d : Debt) (x : Supervision) (haddr : s.addressed = true) (hup : x.up = s.sup.up)
      (hsilence : x.silenceCount = s.sup.silenceCount) (hrestore : x.restoreCount = s.sup.restoreCount) :
    Move (s, d) (s.setSup x, d)
  | configure (s : State) (d : Debt) (l : Fin 12) (mode : LineMode) (edge : Edge) (hold : Digit) (haddr : s.addressed = true) :
    Move (s, d) (s.setLines (s.line.configure l mode edge hold), d)
  | reporting (s : State) (d : Debt) (mode : ReportMode) (a : Addr) (code : BitVec 2) (haddr : s.addressed = true)
      (ha : a ≠ Config.broadcast) :
    Move (s, d) (s.setLines { s.line with reportMode := mode, reportAddr := a, sampleCode := code }, d)
  | manager (s : State) (d : Debt) (second : Bool) (a : Option Addr) (haddr : s.addressed = true)
      (ha : a ≠ some s.adr ∧ a ≠ some Config.broadcast) : Move (s, d) (s.setMgmt (s.mgmt.setManager second a), d)
  | reserve (s : State) (d : Debt) (src : Addr) (seq : Digit) (haddr : s.addressed = true) (hfree : s.mgmt.reply = .free) :
    Move (s, d) (s.setMgmt { s.mgmt with reply := .reserved, commit := some (src, seq) }, d)
  | enable (s : State) (d : Debt) (watch : Digit) (haddr : s.addressed = true) : Move (s, d) (s.enableSpur watch, d)
  | watchTime (s : State) (d : Debt) (watch : Digit) : Move (s, d) (s.setSpur { s.spur with watchTime := watch }, d)
  | disable (s : State) (d : Debt) (watch : Digit) (haddr : s.addressed = true) :
    Move (s, d) (spurOff s watch, { d with lines := taggedLines s.spur.queue ++ d.lines })
  | discarded (s : State) (l : Fin 13) (ls : List (Fin 13)) (b : Bool) :
    Move (s, ⟨l :: ls, b⟩) (s.setLines (s.line.discard l), ⟨ls, b⟩)
  | flush (s : State) (d : Debt) (lost : List Held)
      (hlost : lost.Perm (s.merge.transit ++ s.merge.spurReturn ++ s.merge.insertion ++ s.spur.queue)) :
    Move (s, d) (s.trafficFlush, { d with lines := taggedLines lost ++ d.lines })
  | fullReset (s : State) (d : Debt) (haddr : s.addressed = true) : Move (s, d) (fullFlush s, { d with lines := [] })
  | release (s : State) (d : Debt) (tx : Tx) (src : Addr) (seq : Digit) (payload : List Digit) (haddr : s.addressed = true)
      (htx : ∃ n, s.merge.tx = .fill n) (hlen : 2 ≤ payload.length ∧ payload.length ≤ 15) :
    Move (s, d) ((s.releaseTx tx.abort).fillReply (mgmtReplyFrame s.adr src seq payload).digits, d)

end Sys2Proof.Proofs

/-! ## The moves of the blocks (chapters 2, 4 to 7 and 9)

Every operation that a frame, a unit, a tick or a sample makes of the blocks is a run of `Work`. -/

namespace Sys2Proof.Proofs

open Sys2Proof Sys2Proof.Machine

/-- A run of work that leaves what is owed as it was. -/
def Works (d : Debt) (s t : State) : Prop := Relation.ReflTransGen Work (s, d) (t, d)

theorem Works.refl {d : Debt} (s : State) : Works d s s := Relation.ReflTransGen.refl

theorem Works.trans {d : Debt} {s t u : State} (h : Works d s t) (k : Works d t u) : Works d s u := Relation.ReflTransGen.trans h k

theorem Works.of {d : Debt} {s t : State} (h : Work (s, d) (t, d)) : Works d s t := Relation.ReflTransGen.single h

theorem Works.then {d : Debt} {s t u : State} (h : Works d s t) (k : Work (t, d) (u, d)) : Works d s u := h.trans (.of k)

/-! ### What work leaves alone -/

/-- Work changes neither the straps, the upstream state, the spur state, the map store nor the pending commit. -/
structure SameStates (s t : State) : Prop where
  rate : t.rate = s.rate
  adr : t.adr = s.adr
  resetLow : t.resetLow = s.resetLow
  up : t.sup.up = s.sup.up
  gap : t.sup.gap = s.sup.gap
  spur : t.spur.state = s.spur.state
  map : t.map = s.map
  commit : t.mgmt.commit = s.mgmt.commit

theorem SameStates.refl (s : State) : SameStates s s := ⟨rfl, rfl, rfl, rfl, rfl, rfl, rfl, rfl⟩

theorem SameStates.trans {s t u : State} (h : SameStates s t) (k : SameStates t u) : SameStates s u :=
  ⟨k.rate.trans h.rate, k.adr.trans h.adr, k.resetLow.trans h.resetLow, k.up.trans h.up, k.gap.trans h.gap,
    k.spur.trans h.spur, k.map.trans h.map, k.commit.trans h.commit⟩

theorem sameStates_of_work {a b : Stage} (h : Work a b) : SameStates a.1 b.1 := by
  cases h with
  | receiver s d p r => cases p <;> exact ⟨rfl, rfl, rfl, rfl, rfl, rfl, rfl, rfl⟩
  | event | breakReport | readReply | reply =>
    constructor <;> simp [State.buildEvent, State.buildBreak]
  | enter | poll => constructor <;> simp
  | _ => exact ⟨rfl, rfl, rfl, rfl, rfl, rfl, rfl, rfl⟩

theorem Works.sameStates {d : Debt} {s t : State} (h : Works d s t) : SameStates s t := by
  have hrun {a b : Stage} (h : Relation.ReflTransGen Work a b) : SameStates a.1 b.1 := by
    induction h with
    | refl => exact .refl _
    | tail _ hwork ih => exact ih.trans (sameStates_of_work hwork)
  exact hrun h

theorem SameStates.addressed {s t : State} (h : SameStates s t) : t.addressed = s.addressed := by
  rw [State.addressed, State.addressed, h.adr]

theorem SameStates.own {s t : State} (h : SameStates s t) : t.own = s.own := by
  rw [State.own, State.own, h.addressed, h.adr]

/-! ### Lines that move (R122 to R126, R132) -/

/-- R123: a record changes catch records alone. -/
theorem record_eq (b : LineBlock) (ls : List (Fin 13)) : b.record ls = { b with catches := (b.record ls).catches } := by
  unfold LineBlock.record
  induction ls generalizing b with
  | nil => rfl
  | cons l rest ih => rw [List.foldl_cons, ih]; rfl

@[simp] theorem record_lines (b : LineBlock) (ls : List (Fin 13)) : (b.record ls).lines = b.lines := by rw [record_eq]
@[simp] theorem record_latches (b : LineBlock) (ls : List (Fin 13)) : (b.record ls).latches = b.latches := by rw [record_eq]
@[simp] theorem record_reportMode (b : LineBlock) (ls : List (Fin 13)) : (b.record ls).reportMode = b.reportMode := by
  rw [record_eq]
@[simp] theorem record_reportAddr (b : LineBlock) (ls : List (Fin 13)) : (b.record ls).reportAddr = b.reportAddr := by
  rw [record_eq]
@[simp] theorem record_sampleCode (b : LineBlock) (ls : List (Fin 13)) : (b.record ls).sampleCode = b.sampleCode := by
  rw [record_eq]
@[simp] theorem record_eventSeq (b : LineBlock) (ls : List (Fin 13)) : (b.record ls).eventSeq = b.eventSeq := by rw [record_eq]

/-- The moves of lines, told line by line: what each line's move and each EVENT build keep, the moves of all groups keep. -/
theorem moveEager_induction {move : LineBlock → Fin 13 → LineBlock} {R : List (Fin 13) → State → Prop}
    (hmove : ∀ l rest u, R (l :: rest) u → R rest (u.setLines (move u.line l)))
    (hevent : ∀ rest u, u.eventDue = true → R rest u → R rest u.buildEvent) (groups : List LineGroup)
    (rest : List (Fin 13)) (s : State) (h : R (groups.flatMap LineGroup.lines ++ rest) s) : R rest (s.moveEager move groups) := by
  have hgroup (ls : List (Fin 13)) (rest : List (Fin 13)) (u : State) (h : R (ls ++ rest) u) : R rest (u.moveGroup move ls) := by
    induction ls generalizing u with
    | nil => exact h
    | cons l ls ih => exact ih _ (hmove _ _ _ h)
  have hexamine (rest : List (Fin 13)) (u : State) (h : R rest u) : R rest u.examineEvent := by
    unfold State.examineEvent
    split
    · next hdue => exact hevent _ _ hdue h
    · exact h
  induction groups generalizing s with
  | nil => exact h
  | cons g groups ih =>
    rw [List.flatMap_cons, List.append_assoc] at h
    have hmoved := hgroup _ _ _ h
    simp only [State.moveEager]
    split
    · exact ih _ (hexamine _ _ hmoved)
    · exact ih _ hmoved

/-- The same of the groups of one step, whose examination of R132 a free value may put off. -/
theorem moveLines_induction {move : LineBlock → Fin 13 → LineBlock} {R : List (Fin 13) → State → Prop}
    (hmove : ∀ l rest u, R (l :: rest) u → R rest (u.setLines (move u.line l)))
    (hevent : ∀ rest u, u.eventDue = true → R rest u → R rest u.buildEvent) (hconsume : ∀ rest u, R rest u → R rest u.consume)
    (groups : List LineGroup) (s : State) (h : R (groups.flatMap LineGroup.lines) s) : R [] (s.moveLines move groups) := by
  unfold State.moveLines
  split
  · refine moveEager_induction hmove hevent _ [] _ (hconsume _ _ ?_)
    rwa [List.append_nil, List.flatMap_cons, LineGroup.join, ← List.flatMap_append, List.take_append_drop]
  · exact moveEager_induction hmove hevent _ [] _ (by rwa [List.append_nil])

/-- R122: a qualified edge comes from a line in CATCH mode, or from the pseudo-line of an addressed part. -/
def MayCatch (s : State) : Prop := s.addressed = true ∨ ∃ i : Fin 12, (s.line.lines[i]).mode = .catching

theorem works_moveEdges {d : Debt} {s u : State} (hs : Works d s u) (groups : List LineGroup)
    (h : groups.flatMap LineGroup.lines ≠ [] → MayCatch u) : Works d s (u.moveLines LineBlock.edge groups) := by
  refine (moveLines_induction (R := fun ls v => Works d s v ∧ (ls ≠ [] → MayCatch v)) ?_ ?_ ?_ groups u ⟨hs, h⟩).1
  · rintro l rest v ⟨hv, hcatch⟩
    exact ⟨hv.then (.edge v d l (hcatch (by simp))), fun _ => hcatch (by simp)⟩
  · rintro rest v hdue ⟨hv, hcatch⟩
    refine ⟨hv.then (.event v d hdue), fun hne => ?_⟩
    simpa [MayCatch, State.buildEvent, State.addressed] using hcatch hne
  · rintro rest v ⟨hv, hcatch⟩
    exact ⟨hv.then (.book v d _ _ _), hcatch⟩

theorem works_consume {d : Debt} (s : State) : Works d s s.consume := .of (.book s d _ _ _)

theorem works_setDue {d : Debt} (s : State) (due : List Due) : Works d s (s.setDue due) := .of (.book s d _ _ _)

/-- An event that has become due, or has not. -/
theorem works_dueIf {d : Debt} (s : State) (c : Prop) [Decidable c] (x : Due) : Works d s (if c then s.addDue x else s) := by
  split
  · exact works_setDue _ _
  · exact .refl s

theorem works_tellEdge {d : Debt} (s : State) (before : BitVec 8) : Works d s (s.tellEdge before) := by
  unfold State.tellEdge
  split
  · next h =>
    simp only [Bool.and_eq_true] at h
    exact works_moveEdges (.refl s) _ fun _ => .inl h.1.1
  · exact .refl s

theorem works_latch {d : Debt} (s : State) (l : Latch) : Works d s (s.latch l) :=
  (Works.of (.latch s d l)).trans (works_tellEdge _ _)

theorem works_count_latch {d : Debt} (s : State) (c : Counter) (l : Latch) : Works d s ((s.count c).latch l) :=
  (Works.of (.count s d c)).trans (works_latch _ l)

theorem works_malformedEvent {d : Debt} (s : State) : Works d s s.malformedEvent := works_count_latch _ _ _

theorem works_overrun {d : Debt} (s : State) (q : Target) : Works d s (s.overrun q) := by
  cases q <;> exact works_count_latch _ _ _

theorem works_examineEvent {d : Debt} (s : State) : Works d s s.examineEvent := by
  unfold State.examineEvent
  split
  · next h => exact .of (.event s d h)
  · exact .refl s

theorem works_examineBreak {d : Debt} (s : State) : Works d s s.examineBreak := by
  unfold State.examineBreak
  split
  · next h => exact .of (.breakReport s d h)
  · exact .refl s

theorem works_eitherOrder {d : Debt} {f g : State → State} (hf : ∀ u, Works d u (f u)) (hg : ∀ u, Works d u (g u)) (s : State) :
    Works d s (s.eitherOrder f g) := by
  unfold State.eitherOrder
  split
  · split
    · exact ((works_consume s).trans (hf _)).trans (hg _)
    · exact ((works_consume s).trans (hg _)).trans (hf _)
  · exact (hf _).trans (hg _)

/-! ### Samples and counts (R105, R115, R160) -/

@[simp] theorem tabulate_getElem {α : Type} {n : Nat} (f : Fin n → α) (i : Fin n) : (tabulate f)[i] = f i := by
  simp [tabulate]

/-- R115, R116: a sample leaves a line's settings and its retire field. -/
theorem sample_settings (x : Line) (level : Bool) :
    (x.sample level).mode = x.mode ∧ (x.sample level).edge = x.edge ∧ (x.sample level).hold = x.hold ∧
      (x.sample level).retire = x.retire := by
  unfold Line.sample
  (repeat' split) <;> exact ⟨rfl, rfl, rfl, rfl⟩

theorem works_sampleLines {d : Debt} (s : State) (pins : BitVec 12) : Works d s (s.sampleLines pins) := by
  have hsampled : Works d s (s.setLines (s.line.sampleAll pins)) := by
    refine .of (.sample s d _ fun i => ?_)
    rw [tabulate_getElem]
    exact ⟨(sample_settings _ _).1, (sample_settings _ _).2.2.2⟩
  have hcatch : s.line.edgesAt pins ≠ [] → MayCatch (s.setLines (s.line.sampleAll pins)) := by
    intro hne
    obtain ⟨l, hl⟩ := List.exists_mem_of_ne_nil _ hne
    obtain ⟨i, hi, -⟩ := List.mem_map.mp hl
    have hedge : (s.line.lines[i]).mode = .catching := by
      have h := (List.mem_filter.mp hi).2
      simp only [Line.edgeAt, Bool.and_eq_true, decide_eq_true_eq] at h
      exact h.1
    refine .inr ⟨i, ?_⟩
    simp only [State.setLines_line, LineBlock.sampleAll, tabulate_getElem, (sample_settings _ _).1, hedge]
  have hlines (ls : List (Fin 13)) : (ls.map LineGroup.ofEdge).flatMap LineGroup.lines = ls := by
    rw [List.flatMap_map]; exact List.flatMap_singleton' ls
  unfold State.sampleLines State.handEdges
  split
  · refine works_moveEdges (hsampled.trans (works_consume _)) _ fun hne => hcatch ?_
    rw [hlines] at hne
    rintro hnil
    exact hne (by rw [hnil]; rfl)
  · exact works_moveEdges hsampled _ fun hne => hcatch (by rwa [hlines] at hne)

theorem works_report {d : Debt} (s : State) (p : Port) (u : UnitClass) : Works d s (s.report p u) := by
  have hrestore (n : Nat) : restoreAfter n u ≤ 64 := by
    unfold restoreAfter; split
    · exact Nat.min_le_right _ _
    · exact Nat.zero_le _
  cases p with
  | upstream =>
    have hcounts := Work.upCounts s d 0 (if s.sup.up = .silent then restoreAfter s.sup.restoreCount u else s.sup.restoreCount)
      (Nat.zero_le _) (by split <;> simp [hrestore])
    exact (Works.of hcounts).trans (works_dueIf _ _ _)
  | spur =>
    have hcounts := Work.spurCounts s d 0 (if s.spur.state = .opened then restoreAfter s.spur.restoreCount u else s.spur.restoreCount)
      (Nat.zero_le _) (by split <;> simp [hrestore])
    exact (Works.of hcounts).trans (works_dueIf _ _ _)

theorem works_idleBetween {d : Debt} (s : State) (p : Port) : Works d s (s.idleBetween p) := by
  cases p with
  | upstream =>
    have hgap : Works d s (s.setGapCount (min (s.gapCount + 1) Config.gapLimit)) := .of (.gap s d _ (Nat.min_le_right _ _))
    exact hgap.trans (works_dueIf _ _ _)
  | spur => exact .refl s

theorem works_tick {d : Debt} (s : State) : Works d s s.tick := by
  have hcounts : Works d s s.tickCounts :=
    (Works.of (.upCounts s d (min (s.sup.silenceCount + 1) Config.tickLimit) s.sup.restoreCount (Nat.min_le_right _ _)
      (.inr rfl))).then (.spurCounts _ d (min (s.spur.watchCount + 1) Config.tickLimit) s.spur.restoreCount
        (Nat.min_le_right _ _) (.inr rfl))
  unfold State.tick
  dsimp only
  split
  · split
    · exact (hcounts.trans (works_consume _)).trans ((works_setDue _ _).trans (works_setDue _ _))
    · exact (hcounts.trans (works_consume _)).trans ((works_setDue _ _).trans (works_setDue _ _))
  · split
    · exact hcounts.trans (works_setDue _ _)
    · exact hcounts.trans (works_dueIf _ _ _)

/-! ### Receivers (R8 to R12) -/

theorem works_closeRun {d : Debt} (s : State) : Works d s s.closeRun := .of (.run s d _ (.inl rfl))

theorem works_noRun {d : Debt} (s : State) (p : Port) : Works d s (s.noRun p) := by
  cases p with
  | upstream => exact works_closeRun s
  | spur => exact .refl s

theorem works_setRx {d : Debt} {s : State} {p : Port} {r : Receiver} (hr : r.buffer.length ≤ 24)
    (hp : p = .spur → s.spur.state ≠ .disabled) : Works d s (s.setRx p r) := .of (.receiver s d p r hr hp)

theorem works_truncate {d : Debt} {s : State} {p : Port} (hp : p = .spur → s.spur.state ≠ .disabled) :
    Works d s (s.truncate p) := by
  have hrx : Works d s (s.setRx p .reset) := works_setRx (by simp [Receiver.reset]) hp
  unfold State.truncate
  split
  · cases p with
    | upstream =>
      exact ((hrx.then (.gap _ d 0 (by simp))).trans (works_noRun _ _)).trans (works_malformedEvent _)
    | spur => exact (hrx.trans (works_noRun _ _)).trans (works_malformedEvent _)
  · exact .refl s

theorem works_huntUnit {d : Debt} {s : State} {p : Port} (hp : p = .spur → s.spur.state ≠ .disabled) (u : UnitClass) :
    Works d s (s.huntUnit p u) := by
  cases u with
  | start => exact works_setRx (by simp [Receiver.started]) hp
  | idle => exact works_idleBetween s p
  | _ => exact works_malformedEvent s

theorem works_skipUnit {d : Debt} {s : State} {p : Port} (hp : p = .spur → s.spur.state ≠ .disabled) (u : UnitClass) :
    Works d s (s.skipUnit p u) := by
  cases u with
  | start => exact works_setRx (by simp [Receiver.started]) hp
  | idle => exact works_idleBetween s p
  | _ => exact .refl s

end Sys2Proof.Proofs

/-! ## The moves of frames on the main path (chapters 2 to 5, 7 and 9) -/

namespace Sys2Proof.Proofs

open Sys2Proof Sys2Proof.Machine

/-! ### What the copies of a frame are sent as -/

/-- R46 to R52: no copy goes to the spur return queue, and only a CLOSED spur is sent one. -/
theorem disposition_targets {e : Entry} {spur : SpurState} {k : Kind} {dst : Addr} {cs : List Copy}
    (h : e.disposition spur k dst = .copies cs) :
    ∀ c ∈ cs, c.target = .transit ∨ c.target = .spurOut ∧ spur = .closed := by
  unfold Entry.disposition at h
  dsimp only at h
  (repeat' split at h) <;> cases h <;> simp_all

/-- R71 to R74: no PATTERN frame is longer than a frame may be. -/
theorem convert_payload_le {b : Bank} {e : Entry} {f g : Frame} (hf : f.payload.length ≤ 15) (hg : g ∈ b.convert e f) :
    g.payload.length ≤ 15 := by
  unfold Bank.convert at hg
  split at hg
  · rw [List.mem_singleton] at hg; rwa [hg]
  · next attr symbols hpayload =>
    rw [hpayload, List.length_cons] at hf
    dsimp only at hg
    split at hg
    · next hshort =>
      rw [List.mem_singleton] at hg
      simp only [hg, patternFrame, List.length_cons, flatMap_byteDigits_length, List.length_map]
      omega
    · rw [List.mem_cons, List.mem_singleton] at hg
      rcases hg with rfl | rfl <;>
        simp only [patternFrame, List.length_cons, flatMap_byteDigits_length, List.length_take, List.length_drop, List.length_map] <;>
        omega

/-- R166: a hop record is appended only where there is room. -/
theorem traceWithHop_payload_le {hop : List Digit} {f : Frame} (hhop : hop.length = 4) (hf : f.payload.length ≤ 15) :
    (traceWithHop hop f).payload.length ≤ 15 := by
  unfold traceWithHop
  split
  · exact hf
  · next n records hpayload =>
    rw [hpayload, List.length_cons] at hf ⊢
    split
    · simp only [List.length_append, hhop]; omega
    · simpa using hf

theorem caughtLines_nodup (b : LineBlock) : b.caughtLines.Nodup := (List.nodup_finRange 13).filter _

theorem mem_caughtLines (b : LineBlock) (l : Fin 13) : l ∈ b.caughtLines ↔ (b.catchOf l).state = .caught := by
  simp [LineBlock.caughtLines]

theorem length_flatMap_four {α β : Type} (f : α → List β) (hf : ∀ a, (f a).length = 4) (ls : List α) :
    (ls.flatMap f).length = 4 * ls.length := by
  induction ls with
  | nil => rfl
  | cons a rest ih => rw [List.flatMap_cons, List.length_append, hf, ih, List.length_cons]; omega

/-- R130: records are appended as far as there is room. -/
theorem pollWithRecords_payload_le {s : State} {f g : Frame} (hg : g.payload = f.payload) (hf : f.payload.length ≤ 15) :
    (f.payload ++ (s.pollLines g).flatMap fun l => [rowOf s.adr, colOf s.adr, lineDigit l, (s.line.catchOf l).c]).length ≤ 15 := by
  have hlines : (s.pollLines g).length ≤ (15 - f.payload.length) / 4 := by
    rw [State.pollLines, hg]; exact List.length_take_le _ _
  rw [List.length_append, length_flatMap_four _ (fun _ => rfl)]
  omega

/-! ### Copies (R26 to R31) -/

theorem works_placeAsIs {d : Debt} {s : State} {q : Target} {ds : List Digit} (hds : Sendable ds)
    (hq : q ≠ .transit → s.spur.state ≠ .disabled) : Works d s (s.placeAsIs q ds) := by
  unfold State.placeAsIs
  split
  · next hclaim => exact .of (.enter s d q _ hclaim (by simpa [Held.plain] using hds) hq)
  · exact works_overrun _ _

theorem works_enterCopy {d : Debt} {s : State} {hop : List Digit} {alone : Bool} {f : Frame} {c : Copy}
    (hclaim : s.claim c.target 1 = true) (hf : f.payload.length ≤ 15) (hhop : hop.length = 4)
    (hc : c.target = .transit ∨ c.target = .spurOut ∧ s.spur.state ≠ .disabled) :
    Works d s (s.enterCopy hop alone f c) := by
  have hspur : c.target ≠ .transit → s.spur.state ≠ .disabled := fun hne => (hc.resolve_left hne).2
  have hplain {g : Frame} (hg : g.payload.length ≤ 15) : Works d s (s.enter c.target [Held.plain g.digits]) :=
    .of (.enter s d _ _ hclaim (by simpa [Held.plain] using sendable_digits hg) hspur)
  unfold State.enterCopy
  dsimp only
  split
  · next hrecords =>
    simp only [State.carriesRecords, Bool.and_eq_true, decide_eq_true_eq] at hrecords
    obtain ⟨⟨⟨⟨⟨haddr, -⟩, -⟩, -⟩, -⟩, -⟩ := hrecords
    have hmem (l : Fin 13) (hl : l ∈ s.pollLines f) : (s.line.catchOf l).state = .caught :=
      (mem_caughtLines _ _).mp (List.mem_of_mem_take hl)
    have hdigits := sendable_digits (f := State.pollWithRecords s { f with dst := c.dst })
      (pollWithRecords_payload_le (f := { f with dst := c.dst }) rfl hf)
    refine .of (.poll s d c.target _ _ hclaim hdigits ((caughtLines_nodup _).sublist (List.take_sublist _ _)) hmem haddr ?_ hspur)
    rcases hc with hc | ⟨hc, -⟩ <;> simp [hc]
  · split
    · exact hplain (traceWithHop_payload_le hhop hf)
    · exact hplain hf

theorem works_placeCopy {d : Debt} {s : State} {e : Entry} {hop : List Digit} {alone : Bool} {f : Frame} {c : Copy}
    (hf : f.payload.length ≤ 15) (hhop : hop.length = 4)
    (hc : c.target = .transit ∨ c.target = .spurOut ∧ s.spur.state ≠ .disabled) :
    Works d s (s.placeCopy e hop alone f c).2 := by
  unfold State.placeCopy
  split
  · exact .of (.count s d _)
  · split
    · dsimp only
      split
      · next hclaim =>
        refine .of (.enter s d _ _ (by rwa [List.length_map]) (fun h hh => ?_) fun hne => (hc.resolve_left hne).2)
        obtain ⟨g, hg, rfl⟩ := List.mem_map.mp hh
        exact ⟨rfl, sendable_digits (convert_payload_le (f := { f with dst := c.dst }) hf hg)⟩
      · exact works_overrun _ _
    · split
      · next hclaim => exact works_enterCopy hclaim hf hhop hc
      · exact works_overrun _ _

theorem works_placeCopies {d : Debt} {s : State} {e : Entry} {hop : List Digit} {alone : Bool} {f : Frame} {cs : List Copy}
    (hf : f.payload.length ≤ 15) (hhop : hop.length = 4)
    (hcs : ∀ c ∈ cs, c.target = .transit ∨ c.target = .spurOut ∧ s.spur.state ≠ .disabled) :
    Works d s (s.placeCopies e hop alone f cs).2 := by
  induction cs generalizing s with
  | nil => exact .refl s
  | cons c rest ih =>
    have hfirst := works_placeCopy (d := d) (e := e) (alone := alone) hf hhop (hcs c (by simp))
    refine hfirst.trans (ih fun c hc => ?_)
    rw [hfirst.sameStates.spur]
    exact hcs c (List.mem_cons_of_mem _ hc)

theorem works_beforeClaims {d : Debt} (s : State) (f : Frame) (cs : List Copy) : Works d s (s.beforeClaims f cs).2 := by
  unfold State.beforeClaims
  split
  · split
    · exact works_malformedEvent _
    · exact .of (.count s d _)
  · exact .refl s

/-- R75: what comes before the claims moves no copy. -/
theorem beforeClaims_targets {s : State} {f : Frame} {cs : List Copy} {P : Target → Prop} (h : ∀ c ∈ cs, P c.target) :
    ∀ c ∈ (s.beforeClaims f cs).1, P c.target := by
  unfold State.beforeClaims
  split
  · split
    · intro c hc
      obtain ⟨c', hc', rfl⟩ := List.mem_map.mp hc
      exact h c' hc'
    · exact h
  · exact h

theorem works_lookupAndPlace {d : Debt} (s : State) {f : Frame} (hf : f.payload.length ≤ 15) :
    Works d s (s.lookupAndPlace f).2 := by
  unfold State.lookupAndPlace
  dsimp only
  split
  · exact .of (.count s d _)
  · next cs hcopies =>
    have hbefore := works_beforeClaims (d := d) s f cs
    refine hbefore.trans (works_placeCopies hf rfl ?_)
    refine beforeClaims_targets (P := fun q => q = .transit ∨ q = .spurOut ∧ (s.beforeClaims f cs).2.spur.state ≠ .disabled)
      fun c hc => ?_
    rw [hbefore.sameStates.spur]
    exact (disposition_targets hcopies c hc).imp_right fun ⟨hq, hclosed⟩ => ⟨hq, by simp [hclosed]⟩

/-! ### Stages 5 to 7 (R25 to R27, R83 to R85, R119) -/

/-- R118: WRITE and ADJUST digits change the output latches alone. -/
theorem putCells_eq (b : LineBlock) (adjust : Bool) (c : Digit) (vs : List Digit) :
    b.putCells adjust c vs = { b with latches := (b.putCells adjust c vs).latches } := by
  have hcell (b : LineBlock) (c v : Digit) : b.putCell adjust c v = { b with latches := (b.putCell adjust c v).latches } := by
    unfold LineBlock.putCell; split <;> rfl
  induction vs generalizing b c with
  | nil => rfl
  | cons v rest ih => rw [LineBlock.putCells, ih, hcell]

theorem works_broadcastEffect {d : Debt} (s : State) (f : Frame) (adjust : Bool) : Works d s (s.broadcastEffect f adjust) := by
  unfold State.broadcastEffect
  split
  · next h =>
    simp only [Bool.and_eq_true] at h
    split
    · exact .refl s
    · rw [putCells_eq]
      exact .of (.cells s d _ h.1)
  · exact .refl s

theorem works_afterPlacement {d : Debt} {s : State} (hup : s.sup.up = .live) (e : Entry) (f : Frame) (adjust placed : Bool) :
    Works d s (s.afterPlacement e f adjust placed) := by
  have hopen (dest : Addr) (cell : Digit) : Works d s (s.openRun e dest cell) := by
    unfold State.openRun
    split
    · next h =>
      simp only [Bool.and_eq_true, decide_eq_true_eq] at h
      exact .of (.run s d _ (.inr (.inr ⟨hup, h.2⟩)))
    · exact .refl s
  unfold State.afterPlacement
  split
  · refine Works.trans ?_ (works_broadcastEffect _ _ _)
    split
    · exact .refl s
    · split
      · exact .refl s
      · exact hopen _ _
  · exact .refl s

/-- R83: the run record that the run filter leaves is closed, or was open before. -/
theorem judge_record (r : RunRecord) (adjust : Bool) (dest : Addr) (cell : Digit) :
    (r.judge adjust dest cell).2 = .closed ∨ r.isOpen = true ∨ (r.judge adjust dest cell).2 = r := by
  unfold RunRecord.judge
  split
  · next h => exact .inr (.inl h)
  · exact .inr (.inr rfl)

theorem works_candidate {d : Debt} {s : State} (hup : s.sup.up = .live) {f : Frame} (hf : f.payload.length ≤ 15) (adjust : Bool) :
    Works d s (s.candidate f adjust) := by
  have hgo {u : State} (hu : Works d s u) : Works d s ((u.lookupAndPlace f).2.afterPlacement (u.map.activeBank.entry f.dst) f
      adjust (u.lookupAndPlace f).1) := by
    have hplaced := hu.trans (works_lookupAndPlace u hf)
    exact hplaced.trans (works_afterPlacement (by rw [hplaced.sameStates.up, hup]) _ _ _ _)
  unfold State.candidate
  dsimp only
  split
  · exact hgo (works_closeRun s)
  · next cell rest _ =>
    split
    · exact .of (.count s d _)
    · next r hjudge =>
      have hrecord := judge_record s.run adjust f.dst cell
      rw [hjudge] at hrecord
      refine hgo ?_
      rcases hrecord with h | h | h
      · exact .of (.run s d r (.inl h))
      · exact .of (.run s d r (.inr (.inl h)))
      · rw [show r = s.run from h]; exact .refl s

theorem works_mainPath {d : Debt} {s : State} (hup : s.sup.up = .live) {f : Frame} (hf : f.payload.length ≤ 15) :
    Works d s (s.mainPath f) := by
  have hplace : Works d s (s.closeRun.lookupAndPlace f).2 := (works_closeRun s).trans (works_lookupAndPlace _ hf)
  unfold State.mainPath
  cases kindOf f.kind with
  | write => exact works_candidate hup hf _
  | adjust => exact works_candidate hup hf _
  | unassigned => exact (works_closeRun s).trans (works_placeAsIs (sendable_digits hf) (by simp))
  | _ => exact hplace

/-! ### Damaged frames, and own frames of the line unit (R22, R118 to R121) -/

/-- R21: a frame that is not malformed may be sent. -/
theorem sendable_of_damaged {e : Ending} {ds : List Digit} (h : classify e ds = .damaged) : Sendable ds := by
  have hgood : ¬MalformedFrame e ds := fun hm => by
    rw [(classify_eq_malformed_iff e ds).mpr hm] at h; cases h
  have hlen := (ds.getD 6 0#4).isLt
  simp only [MalformedFrame, not_or, not_lt, not_not] at hgood
  obtain ⟨-, h9, hlength, hdst, hsrc⟩ := hgood
  exact ⟨h9, by omega, hdst, hsrc, hlength⟩

theorem works_takeDamaged {d : Debt} {s : State} {p : Port} {ds : List Digit} (hds : Sendable ds)
    (hp : p = .spur → s.spur.state ≠ .disabled) : Works d s (s.takeDamaged p ds) := by
  have hreport : Works d s (((s.noRun p).count .damaged).latch .damageSeen) :=
    (works_noRun s p).trans (works_count_latch _ _ _)
  unfold State.takeDamaged
  dsimp only
  split
  · refine hreport.trans (works_placeAsIs hds fun hq => ?_)
    rw [hreport.sameStates.spur]
    cases p with
    | upstream => exact absurd rfl hq
    | spur => exact hp rfl
  · exact hreport

theorem works_ownCells {d : Debt} {s : State} (haddr : s.addressed = true) (adjust : Bool) (cell : Digit) (vs : List Digit) :
    Works d s (s.ownCells adjust cell vs) := by
  have hcells : Works d s (s.setLines (s.line.putCells adjust cell vs)) := by
    rw [putCells_eq]; exact .of (.cells s d _ haddr)
  unfold State.ownCells
  dsimp only
  split
  · exact hcells.trans (works_latch _ _)
  · exact hcells

@[simp] theorem readCells_length (s : State) (c : Digit) (k : Nat) (ms : List Digit) : (s.readCells c k ms).length = k := by
  induction k generalizing c ms with
  | zero => rfl
  | succ k ih => cases ms <;> simp [State.readCells, ih]

theorem works_ownRead {d : Debt} {s : State} (haddr : s.addressed = true) (f : Frame) (cell : Digit) {k : Nat} (hk : k ≤ 15)
    (masks : List Digit) : Works d s (s.ownRead f cell k masks) := by
  unfold State.ownRead
  split
  · next hroom =>
    have hreply : Works d s (s.insert (Held.plain (replyFrame s.adr f (s.readCells cell k masks)).digits)) :=
      .of (.readReply s d _ hroom rfl (sendable_digits (by simpa [replyFrame] using hk)) haddr)
    dsimp only
    split
    · exact hreply.trans (works_latch _ _)
    · exact hreply
  · exact works_count_latch _ _ _

end Sys2Proof.Proofs

/-! ## The moves of events, frames and units (chapters 1 to 3, 6 and 9) -/

namespace Sys2Proof.Proofs

open Sys2Proof Sys2Proof.Machine

/-- A run of changes that leaves what is owed as it was. -/
def Changes (d : Debt) (s t : State) : Prop := Relation.ReflTransGen Change (s, d) (t, d)

theorem Changes.refl {d : Debt} (s : State) : Changes d s s := Relation.ReflTransGen.refl

theorem Changes.trans {d : Debt} {s t u : State} (h : Changes d s t) (k : Changes d t u) : Changes d s u :=
  Relation.ReflTransGen.trans h k

theorem Changes.of {d : Debt} {s t : State} (h : Change (s, d) (t, d)) : Changes d s t := Relation.ReflTransGen.single h

theorem Works.changes {d : Debt} {s t : State} (h : Works d s t) : Changes d s t :=
  Relation.ReflTransGen.mono (fun _ _ hwork => Change.work hwork) _ _ h

/-- A change neither moves the straps nor disables the spur. -/
theorem straps_of_change {a b : Stage} (h : Change a b) : b.1.rate = a.1.rate ∧ b.1.adr = a.1.adr ∧
    b.1.resetLow = a.1.resetLow ∧ (a.1.spur.state ≠ .disabled → b.1.spur.state ≠ .disabled) := by
  cases h with
  | work h =>
    have hsame := sameStates_of_work h
    exact ⟨hsame.rate, hsame.adr, hsame.resetLow, by rw [hsame.spur]; exact id⟩
  | silent | live => exact ⟨rfl, rfl, rfl, id⟩
  | spur s d x w hs hx => exact ⟨rfl, rfl, rfl, fun _ => hx⟩
  | swap s d hc =>
    unfold State.swap
    split
    · exact ⟨rfl, rfl, rfl, id⟩
    · simp [State.closeRun]

theorem Changes.straps {d : Debt} {s t : State} (h : Changes d s t) :
    t.rate = s.rate ∧ t.adr = s.adr ∧ t.resetLow = s.resetLow ∧ (s.spur.state ≠ .disabled → t.spur.state ≠ .disabled) := by
  have hrun {a b : Stage} (h : Relation.ReflTransGen Change a b) : b.1.rate = a.1.rate ∧ b.1.adr = a.1.adr ∧
      b.1.resetLow = a.1.resetLow ∧ (a.1.spur.state ≠ .disabled → b.1.spur.state ≠ .disabled) := by
    induction h with
    | refl => exact ⟨rfl, rfl, rfl, id⟩
    | tail _ hchange ih =>
      obtain ⟨hrate, hadr, hlow, hspur⟩ := ih
      obtain ⟨krate, kadr, klow, kspur⟩ := straps_of_change hchange
      exact ⟨krate.trans hrate, kadr.trans hadr, klow.trans hlow, kspur ∘ hspur⟩
  exact hrun h

theorem Changes.adr {d : Debt} {s t : State} (h : Changes d s t) : t.adr = s.adr := h.straps.2.1

theorem Changes.enabled {d : Debt} {s t : State} (h : Changes d s t) (hs : s.spur.state ≠ .disabled) : t.spur.state ≠ .disabled :=
  h.straps.2.2.2 hs

/-! ### The events that are due (R39, R40, R87, R105, R106, R160 to R162) -/

theorem changes_swap {d : Debt} (s : State) : Changes d s s.swap := by
  by_cases h : s.mgmt.commit = none
  · rw [State.swap, h]; exact .refl s
  · exact .of (.swap s d h)

/-- R161, step 3: the run is closed, so that nothing of the change to SILENT is owed. -/
theorem change_toldSilent (s : State) (b : Bool) :
    Relation.ReflTransGen Change (s, ⟨[], b⟩) (s.toldSilent, .nothing) := by
  have htruncated : Changes ⟨[], b⟩ s (s.truncate .upstream) := (works_truncate (by simp)).changes
  exact (htruncated.tail (.work (.runPaid _ _))).trans (changes_swap _)

theorem changes_becomeSilent (s : State) : Changes .nothing s s.becomeSilent := by
  unfold State.becomeSilent
  split
  · extract_lets _ t u
    have ht : Relation.ReflTransGen Change (s, .nothing) (t, ⟨[], true⟩) :=
      (Relation.ReflTransGen.single (.silent s .nothing)).tail (.work (.count _ _ .changes))
    have hu : Relation.ReflTransGen Change (s, .nothing) (u, ⟨[], true⟩) :=
      (ht.tail (.work (.book t _ t.due (t.choices + 1) t.pending))).tail (.work (.latch t.consume _ .condition))
    have htold {v : State} (hv : Relation.ReflTransGen Change (s, .nothing) (v, ⟨[], true⟩)) : Changes .nothing s v.toldSilent :=
      Relation.ReflTransGen.trans hv (change_toldSilent v true)
    have hedge (v : State) (x : BitVec 8) (d : Debt) : Changes d v (v.tellEdge x) := (works_tellEdge v x).changes
    have hbreak (v : State) : Changes .nothing v v.examineBreak := (works_examineBreak v).changes
    clear_value u t
    split
    · split
      · exact (htold (hu.trans (hedge _ _ _))).trans (hbreak _)
      · exact ((htold hu).trans (hedge _ _ _)).trans (hbreak _)
      · exact ((htold hu).trans (hbreak _)).trans (hedge _ _ _)
    · exact (htold (ht.trans (works_latch t .condition).changes)).trans (hbreak _)
  · exact .refl s

theorem changes_becomeLive (s : State) : Changes .nothing s s.becomeLive := by
  unfold State.becomeLive
  split
  · exact (Changes.of (.live s _)).trans ((Works.of (.count _ _ .changes)).trans (works_examineBreak _)).changes
  · exact .refl s

theorem changes_spurOpens (s : State) : Changes .nothing s s.spurOpens := by
  unfold State.spurOpens
  split
  · next hclosed =>
    have hopen := Changes.of (.spur s .nothing .opened s.spur.watchCount (by simp [hclosed]) (by simp) (.inr rfl))
    refine hopen.trans (Works.trans (((works_truncate (p := .spur) (by simp)).then (.count _ _ .changes))) ?_).changes
    exact works_eitherOrder (fun u => works_latch u _) works_examineBreak _
  · exact .refl s

theorem changes_spurCloses (s : State) : Changes .nothing s s.spurCloses := by
  unfold State.spurCloses
  split
  · next hopened =>
    have hclose := Changes.of (.spur s .nothing .closed 0 (by simp [hopened]) (by simp) (.inl rfl))
    exact hclose.trans ((Works.of (.count _ _ .changes)).trans (works_examineBreak _)).changes
  · exact .refl s

theorem changes_perform (s : State) (x : Due) : Changes .nothing s (s.perform x) := by
  cases x with
  | runGapExpiry => exact (works_closeRun s).changes
  | swap => exact changes_swap s
  | upstreamSilence => exact changes_becomeSilent s
  | upstreamRestore => exact changes_becomeLive s
  | spurWatchExpiry => exact changes_spurOpens s
  | spurRestore => exact changes_spurCloses s

theorem changes_settle (s : State) : Changes .nothing s s.settle := by
  have hfold (xs : List Due) (u : State) : Changes .nothing u (xs.foldl State.perform u) := by
    induction xs generalizing u with
    | nil => exact .refl u
    | cons x rest ih => exact (changes_perform u x).trans (ih _)
  exact (works_setDue s []).changes.trans (hfold _ _)

theorem changes_takeDue (s : State) (x : Due) : Changes .nothing s (s.takeDue x) := by
  unfold State.takeDue
  split
  · exact (works_setDue s _).changes.trans (changes_perform _ x)
  · exact .refl s

theorem changes_restoreByFrame (s : State) (p : Port) : Changes .nothing s (s.restoreByFrame p) := by
  cases p with
  | upstream => exact changes_becomeLive s
  | spur => exact changes_spurCloses s

/-- R162: a frame from upstream finds the upstream state LIVE. -/
theorem becomeLive_up (s : State) : s.becomeLive.sup.up = .live := by
  unfold State.becomeLive
  split
  · exact (works_examineBreak (d := .nothing) _).sameStates.up
  · next h => cases hup : s.sup.up with
    | live => rfl
    | silent => exact absurd hup h

/-! ### Frames and units (R8 to R11, R20 to R24, R138) -/

/-- `t` is `s` after some changes, and after the execution of one management command where a frame of `Q` carried one, up to what has
become due. Steps 1 to 5 of R138 let the command pass: the part is addressed and its reply slot FREE. -/
def Carried (Q : Frame → Prop) (s t : State) : Prop :=
  ∃ u v : State, Changes .nothing s u ∧ t = v.setDue t.due ∧
    (v = u ∨ ∃ f c, Q f ∧ kindOf f.kind = .mgmt ∧ s.addressed = true ∧ u.mgmt.reply = .free ∧
      parseCommand s.adr f.command (f.payload.drop 1) = .command c ∧ v = u.execute f c)

theorem Changes.carried {Q : Frame → Prop} {s t : State} (h : Changes .nothing s t) : Carried Q s t := ⟨t, t, h, rfl, .inl rfl⟩

theorem Works.carried {Q : Frame → Prop} {s t : State} (h : Works .nothing s t) : Carried Q s t := h.changes.carried

theorem Carried.after {Q : Frame → Prop} {s t u : State} (h : Changes .nothing s t) (k : Carried Q t u) : Carried Q s u := by
  obtain ⟨v, w, hv, hu, hw⟩ := k
  have haddr : t.addressed = s.addressed := by rw [State.addressed, State.addressed, h.adr]
  rw [h.adr, haddr] at hw
  exact ⟨v, w, h.trans hv, hu, hw⟩

theorem Carried.mono {Q R : Frame → Prop} (hQ : ∀ f, Q f → R f) {s t : State} (h : Carried Q s t) : Carried R s t := by
  obtain ⟨u, v, hu, ht, hv⟩ := h
  exact ⟨u, v, hu, ht, hv.imp_right fun ⟨f, c, hf, hc⟩ => ⟨f, c, hQ f hf, hc⟩⟩

theorem Carried.dueIf {Q : Frame → Prop} {s t : State} (h : Carried Q s t) (c : Prop) [Decidable c] (x : Due) :
    Carried Q s (if c then t.addDue x else t) := by
  split
  · obtain ⟨u, v, hu, ht, hv⟩ := h
    exact ⟨u, v, hu, by rw [ht]; rfl, hv⟩
  · exact h

theorem works_reply {d : Debt} {s : State} (haddr : s.addressed = true) (f : Frame) {payload : List Digit}
    (hlen : 2 ≤ payload.length ∧ payload.length ≤ 15 ∨ ∃ r, s.mgmt.last = some r ∧ r.payload = payload) :
    Works d s (s.reply f payload) := .of (.reply s d f.src f.seq payload haddr hlen)

/-- R140: a replayed payload is the recorded one. -/
theorem replays_eq_some {m : Management} {f : Frame} {payload : List Digit} (h : m.replays f = some payload) :
    ∃ r, m.last = some r ∧ r.payload = payload := by
  unfold Management.replays at h
  split at h
  · next r hr =>
    split at h
    · exact ⟨r, hr, Option.some.inj h⟩
    · cases h
  · cases h

/-- R144: an answer of a length that a frame can carry. -/
theorem works_answerWith {d : Debt} {s : State} (haddr : s.addressed = true) (f : Frame) (status : Digit) {data : List Digit}
    (hdata : data.length ≤ 13) : Works d s (s.answerWith f status data) := by
  have hlen : 2 ≤ (f.command :: status :: data).length ∧ (f.command :: status :: data).length ≤ 15 := by
    simp only [List.length_cons]; omega
  exact (Works.of (.last s d { src := f.src, seq := f.seq, command := f.command, payload := _ } haddr hlen)).trans
    (works_reply (s := s.recordReply f _) haddr f (.inl hlen))

/-- R138: a MGMT frame is dropped, replayed, refused or answered, or its command is executed. -/
theorem carried_manage {s : State} (haddr : s.addressed = true) {f : Frame} (hkind : kindOf f.kind = .mgmt) : Carried (· = f) s (s.manage f) := by
  unfold State.manage
  split
  · exact (works_count_latch _ _ _).carried
  · next hfree =>
    split
    · next payload hreplay => exact (works_reply haddr f (.inr (replays_eq_some hreplay))).carried
    · split
      · exact (works_reply haddr f (.inl (by simp))).carried
      · split
        · exact (works_answerWith haddr f _ (by simp)).carried
        · exact (works_answerWith haddr f _ (by simp)).carried
        · next c hparse => exact ⟨s, _, .refl s, rfl, .inr ⟨f, c, rfl, hkind, haddr, not_not.mp hfree, hparse, rfl⟩⟩

theorem carried_ownFrame {s : State} (haddr : s.addressed = true) (f : Frame) : Carried (· = f) s (s.ownFrame f) := by
  have hmalformed : Carried (· = f) s s.malformedEvent := (works_malformedEvent s).carried
  unfold State.ownFrame
  cases hkind : kindOf f.kind with
  | write | adjust =>
    dsimp only; split
    · exact hmalformed
    · exact (works_ownCells haddr _ _ _).carried
  | read =>
    dsimp only; split
    · next k _ _ =>
      have hk := k.isLt
      split
      · exact hmalformed
      · exact (works_ownRead haddr _ _ (by omega) _).carried
    · exact hmalformed
  | mgmt =>
    dsimp only; split
    · exact hmalformed
    · exact carried_manage haddr hkind
  | _ => exact (Works.of (.count s _ _)).carried

theorem addressed_of_own {s : State} {a : Addr} (h : s.own = some a) : s.addressed = true := by
  unfold State.own at h
  split at h
  · assumption
  · cases h

theorem carried_takeIntact {s : State} {p : Port} {f : Frame} (hf : f.payload.length ≤ 15)
    (hp : p = .spur → s.spur.state ≠ .disabled) : Carried (· = f) s (s.takeIntact p f) := by
  have hrestored := changes_restoreByFrame s p
  refine Carried.after hrestored ?_
  have hup : p = .upstream → (s.restoreByFrame p).sup.up = .live := by rintro rfl; exact becomeLive_up s
  have hspur : p = .spur → (s.restoreByFrame p).spur.state ≠ .disabled := fun h => hrestored.enabled (hp h)
  unfold State.takeIntact
  dsimp only
  generalize s.restoreByFrame p = t at hup hspur ⊢
  split
  · exact ((works_noRun t p).then (.count _ _ _)).carried
  · split
    · next hown =>
      refine Carried.after (works_noRun t p).changes (carried_ownFrame ?_ f)
      rw [(works_noRun (d := .nothing) t p).sameStates.addressed]
      exact addressed_of_own hown
    · cases p with
      | upstream => exact (works_mainPath (hup rfl) hf).carried
      | spur => exact (works_placeAsIs (sendable_digits hf) fun _ => hspur rfl).carried

theorem carried_take {s : State} {p : Port} (e : Ending) (ds : List Digit) (hp : p = .spur → s.spur.state ≠ .disabled) :
    Carried (fun f => classify e ds = .intact f) s (s.take p e ds) := by
  unfold State.take
  split
  · exact ((works_noRun s p).trans (works_malformedEvent _)).carried
  · next h => exact (works_takeDamaged (sendable_of_damaged h) hp).carried
  · next f h =>
    refine (carried_takeIntact (eq_digits_of_classify h).2.1 hp).mono ?_
    rintro g rfl
    exact h

theorem carried_complete {s : State} {p : Port} (e : Ending) (ds : List Digit) {after : Receiver}
    (hafter : after.buffer.length ≤ 24) (hp : p = .spur → s.spur.state ≠ .disabled) :
    Carried (fun f => classify e ds = .intact f) s (s.complete p e ds after) := by
  have hrx : Works .nothing s (s.setRx p after) := works_setRx hafter hp
  cases p with
  | upstream =>
    have hgap := hrx.then (.gap _ _ 0 (by simp))
    exact (Carried.after hgap.changes (carried_take e ds (by simp))).dueIf _ _
  | spur => exact Carried.after hrx.changes (carried_take e ds (by rw [hrx.sameStates.spur]; exact hp))

theorem carried_assembleUnit {s : State} {p : Port} (hp : p = .spur → s.spur.state ≠ .disabled) (u : UnitClass) :
    Carried (fun _ => True) s (s.assembleUnit p u) := by
  have hcomplete (e : Ending) (r : Receiver) (hr : r.buffer.length ≤ 24) :
      Carried (fun _ => True) s (s.complete p e (s.rx p).buffer r) :=
    (carried_complete e _ hr hp).mono fun _ _ => trivial
  cases u with
  | data x =>
    simp only [State.assembleUnit]
    split
    · next hroom =>
      have hlen : (s.rx p).buffer.length < 24 := hroom
      exact (works_setRx (by simp only [List.length_append, List.length_singleton]; omega) hp).carried
    · exact hcomplete _ _ (by simp)
  | start => exact hcomplete _ _ (by simp [Receiver.started])
  | stop | idle | stray => exact hcomplete _ _ (by simp [Receiver.reset])

theorem enabled_of_not_deaf {s : State} {p : Port} (h : ¬s.deaf p = true) : p = .spur → s.spur.state ≠ .disabled := by
  rintro rfl hd
  exact h (by simp [State.deaf, hd])

theorem carried_receive (s : State) (p : Port) (u : LineUnit) : Carried (fun _ => True) s (s.receive p u) := by
  have hreported : Works .nothing s (s.report p (classOf u)) := works_report s p _
  unfold State.receive
  split
  · exact (Changes.refl s).carried
  · next hdeaf =>
    have hp : p = .spur → (s.report p (classOf u)).spur.state ≠ .disabled := by
      rw [hreported.sameStates.spur]; exact enabled_of_not_deaf hdeaf
    refine Carried.after hreported.changes ?_
    dsimp only; split
    · exact (works_huntUnit hp _).carried
    · exact carried_assembleUnit hp _
    · exact (works_skipUnit hp _).carried

/-- R9: a START that cuts a frame short has it taken as malformed. -/
theorem changes_startArrives {s : State} {p : Port} (hp : p = .spur → s.spur.state ≠ .disabled) :
    Changes .nothing s (s.startArrives p) := by
  have hreported : Works .nothing s (s.report p .start) := works_report s p _
  unfold State.startArrives
  dsimp only
  split
  · refine hreported.changes.trans (Changes.trans ?_ (changes_settle _))
    have hcut := carried_complete (s := s.report p .start) (p := p) (after := .started) .truncated ((s.report p .start).rx p).buffer
      (by simp [Receiver.started]) (by rw [hreported.sameStates.spur]; exact hp)
    obtain ⟨u, v, hu, ht, rfl | ⟨f, -, hf, -⟩⟩ := hcut
    · rw [ht]
      exact hu.trans (works_setDue _ _).changes
    · exact absurd hf (by simp [classify])
  · exact hreported.changes

theorem carried_arrive (s : State) (p : Port) (e : Ending) (ds : List Digit) :
    Carried (fun f => classify e ds = .intact f) s (s.arrive p e ds) := by
  unfold State.arrive
  split
  · exact (Changes.refl s).carried
  · next hdeaf =>
    have hp := enabled_of_not_deaf hdeaf
    have hstart := changes_startArrives hp
    exact Carried.after hstart (carried_complete e ds (by cases e <;> simp [afterEnding, Receiver.reset])
      fun h => hstart.enabled (hp h))

theorem carried_arriveOwn (s : State) (q : Requester) (kind : Digit) (payload : List Digit) :
    Carried (· = { kind := kind, dst := s.adr, src := q.src, seq := q.seq, payload := payload }) s
      (s.arriveOwn q kind payload) :=
  (carried_arrive s _ _ _).mono fun _ h => frame_eq_of_classify_digits h

end Sys2Proof.Proofs

/-! ## The moves of the transmitters and of the commands (section 1.8, chapters 6 and 8) -/

namespace Sys2Proof.Proofs

open Sys2Proof Sys2Proof.Machine

/-! ### Transmitters (R13 to R15, R100, R104) -/

/-- A run of the transmitters' moves that leaves what is owed as it was. -/
def Sends (d : Debt) (s t : State) : Prop := Relation.ReflTransGen Sending (s, d) (t, d)

theorem Sends.refl {d : Debt} (s : State) : Sends d s s := Relation.ReflTransGen.refl

theorem Sends.trans {d : Debt} {s t u : State} (h : Sends d s t) (k : Sends d t u) : Sends d s u :=
  Relation.ReflTransGen.trans h k

theorem Sends.of {d : Debt} {s t : State} (h : Sending (s, d) (t, d)) : Sends d s t := Relation.ReflTransGen.single h

theorem Works.sends {d : Debt} {s t : State} (h : Works d s t) : Sends d s t :=
  Relation.ReflTransGen.mono (fun _ _ hwork => Sending.work hwork) _ _ h

/-- R124, R126, R132: the line unit is told of the departure of a frame with these lines. -/
theorem send_departure (s : State) (b gone : Bool) (ls : List (Fin 13)) :
    Relation.ReflTransGen Sending (s, ⟨ls, b⟩) (s.moveLines LineBlock.departure [{ lines := ls, eventGone := gone }], ⟨[], b⟩) := by
  refine moveLines_induction (R := fun rest u => Relation.ReflTransGen Sending (s, ⟨ls, b⟩) (u, ⟨rest, b⟩)) ?_ ?_ ?_ _ s ?_
  · exact fun l rest u h => h.tail (.told u l rest b)
  · exact fun rest u hdue h => h.tail (.work (.event u _ hdue))
  · exact fun rest u h => h.tail (.work (.book u _ _ _ _))
  · simp only [List.flatMap_cons, List.flatMap_nil, List.append_nil]
    exact .refl

/-- R100, R104: the notifications of a departed frame, whose lines are owed. -/
theorem send_notifyDeparture (s : State) (b : Bool) (h : Held) :
    Relation.ReflTransGen Sending (s, ⟨taggedLines [h], b⟩) (s.notifyDeparture h, ⟨[], b⟩) := by
  unfold State.notifyDeparture
  split
  · next ls htag =>
    have hlines : taggedLines [h] = ls := by simp [taggedLines, htag]
    rw [hlines]
    exact send_departure s b _ ls
  · next c htag =>
    have hlines : taggedLines [h] = [] := by simp [taggedLines, htag]
    rw [hlines]
    exact (works_examineBreak s).sends
  · next htag =>
    have hlines : taggedLines [h] = [] := by simp [taggedLines, htag]
    rw [hlines]

theorem headLines_eq_of_head {hs : List Held} {h : Held} (hh : hs.head? = some h) : headLines hs = taggedLines [h] := by
  cases hs with
  | nil => cases hh
  | cons x rest => cases hh; rfl

theorem headLines_eq_nil {hs : List Held} (hh : hs.head? = none) : headLines hs = [] := by
  rw [List.head?_eq_none_iff.mp hh]; rfl

theorem sends_departDown (s : State) : Sends .nothing s s.departDown := by
  unfold State.departDown
  split
  · next src n htx =>
    have hgone := Relation.ReflTransGen.single (Sending.departDown s .nothing src n unitEnd htx)
    dsimp only
    split
    · next h hhead =>
      rw [headLines_eq_of_head hhead] at hgone
      exact hgone.trans (by simpa [Debt.nothing] using send_notifyDeparture _ false h)
    · next hhead =>
      rw [headLines_eq_nil hhead] at hgone
      exact hgone
  · exact .refl s
  · exact .refl s

theorem sends_departSpur (s : State) : Sends .nothing s s.departSpur := by
  unfold State.departSpur
  split
  · have hgone := Relation.ReflTransGen.single (Sending.departSpur s .nothing unitEnd)
    dsimp only
    split
    · next h hhead =>
      rw [headLines_eq_of_head hhead] at hgone
      exact hgone.trans (by simpa [Debt.nothing] using send_notifyDeparture _ false h)
    · next hhead =>
      rw [headLines_eq_nil hhead] at hgone
      exact hgone
  · exact .refl s
  · exact .refl s

theorem sends_readyDown (s : State) : Sends .nothing s s.readyDown := by
  unfold State.readyDown
  split
  · exact .of (.readyDown s _ _)
  · exact .refl s
  · exact .refl s

theorem sends_readySpur (s : State) : Sends .nothing s s.readySpur := by
  unfold State.readySpur
  split
  · exact .of (.readySpur s _ _)
  · exact .refl s
  · exact .refl s

theorem sends_sendDown (s : State) : Sends .nothing s s.sendDown := by
  unfold State.sendDown
  split
  · split
    · exact sends_readyDown s
    · exact .of (.down s _ _ _ (.inr (.inl ⟨_, rfl⟩)))
  · next htx =>
    rw [show s.merge = { s.merge with tx := .ready } by rw [← htx]]
    exact .of (.down s _ _ _ (.inl htx.symm))
  · next src k htx =>
    split
    · exact sends_departDown s
    · exact .of (.down s _ _ _ (.inr (.inr ⟨src, k, k + 1, htx, rfl⟩)))

theorem sends_sendSpur (s : State) : Sends .nothing s s.sendSpur := by
  unfold State.sendSpur
  split
  · split
    · exact sends_readySpur s
    · exact .of (.out s _ _ _ (.inr (.inl ⟨_, rfl⟩)))
  · next htx =>
    rw [show s.spur = { s.spur with tx := .ready } by rw [← htx]]
    exact .of (.out s _ _ _ (.inl htx.symm))
  · next src k htx =>
    split
    · exact sends_departSpur s
    · exact .of (.out s _ _ _ (.inr (.inr ⟨src, k, k + 1, htx, rfl⟩)))

theorem sends_unitTime (s : State) : Sends .nothing s s.unitTime := by
  have hconsume : Sends .nothing s s.consume := (works_consume s).sends
  unfold State.unitTime
  split
  · exact (hconsume.trans (sends_sendSpur _)).trans (sends_sendDown _)
  · split
    · exact (hconsume.trans (sends_sendDown _)).trans (sends_sendSpur _)
    · exact (sends_sendDown s).trans (sends_sendSpur _)

/-! ### Own-frame rows (assumption log 9) -/

/-- A row named after an own frame does what the taking of its frame does. -/
theorem exec_eq_takeFrame {c : Instr} {q : Requester} {kind : Digit} {payload : List Digit}
    (h : ownFrameOf c = some (q, kind, payload)) (s : State) :
    exec c s = s.settled fun t => t.arriveOwn q kind payload := by
  cases c <;> cases h <;> rfl

/-! ### What a command does to the part -/

/-- The three ways in which a command is carried out while RESET is not held low: as the release of RESET, as the reception of what may
be a MGMT frame, or as a move of the transmitters once what is due has been taken. -/
inductive Ran (i : Instr) (s t : State) : Prop where
  | held (ht : t = s) : Ran i s t
  | powerOn (rate : BitVec 2) (adr : Addr) (pins : BitVec 12) (hi : i = .powerOnReset rate adr pins)
      (ht : t = s.release rate adr pins) : Ran i s t
  | carried (h : Carried (fun f => (∃ p u, i = .receiveUnit p u) ∨ (∃ p e ds, i = .takeFrame p e ds) ∨
      ∃ q kind payload, ownFrameOf i = some (q, kind, payload) ∧
        f = { kind := kind, dst := s.adr, src := q.src, seq := q.seq, payload := payload }) s t) : Ran i s t
  | sent (u : State) (hu : Changes .nothing s u) (ht : Sends .nothing u t) : Ran i s t

theorem ran_exec {i : Instr} {s t : State} (h : exec i s = .next t) : Ran i s t := by
  have hanswer {f : State → State} (hf : Ran i s (f s)) (ht : s.answer f = .next t) : Ran i s t := by
    cases ht
    split
    · exact .held rfl
    · exact hf
  have hsent {f : State → State} (hf : ∀ u, Sends .nothing u (f u)) (ht : s.settled f = .next t) : Ran i s t :=
    hanswer (.sent _ (changes_settle s) (hf _)) ht
  have htake (x : Due) (ht : s.answer (fun u => u.takeDue x) = .next t) : Ran i s t :=
    hanswer (.sent _ (changes_takeDue s x) (.refl _)) ht
  have hown {q : Requester} {kind : Digit} {payload : List Digit} (hi : ownFrameOf i = some (q, kind, payload)) : Ran i s t := by
    rw [exec_eq_takeFrame hi] at h
    have hadr : s.settle.adr = s.adr := (changes_settle s).adr
    refine hanswer (.carried (Carried.after (changes_settle s) ((carried_arriveOwn _ q kind payload).mono ?_))) h
    rintro f rfl
    exact .inr (.inr ⟨q, kind, payload, hi, by rw [hadr]⟩)
  cases i with
  | powerOnReset rate adr pins => cases h; exact .powerOn rate adr pins rfl rfl
  | resetAsserted => exact hsent (fun u => .of (.reset u _)) h
  | receiveUnit p u =>
    exact hanswer (f := fun v => v.settle.receive p u) (.carried (Carried.after (changes_settle s)
      ((carried_receive _ p u).mono fun _ _ => .inl ⟨p, u, rfl⟩))) h
  | takeFrame p e ds =>
    exact hanswer (f := fun v => v.settle.arrive p e ds) (.carried (Carried.after (changes_settle s)
      ((carried_arrive _ p e ds).mono fun _ _ => .inr (.inl ⟨p, e, ds, rfl⟩)))) h
  | transmitterReady o =>
    cases o with
    | downstream => exact hsent sends_readyDown h
    | spur => exact hsent sends_readySpur h
  | frameDeparts => exact hsent sends_departDown h
  | spurFrameDeparts => exact hsent sends_departSpur h
  | lineSample pins => exact hsent (fun u => (works_sampleLines u pins).sends) h
  | serviceTick => exact hsent (fun u => (works_tick u).sends) h
  | runGapExpiry | swap | upstreamSilence | upstreamRestore | spurWatchExpiry | spurRestore => exact htake _ h
  | _ => exact hown rfl

/-! ### Management commands (R107, R108, R131, R133, R146 to R154) -/

/-- A run of moves that leaves what is owed as it was. -/
def Moves (d : Debt) (s t : State) : Prop := Relation.ReflTransGen Move (s, d) (t, d)

theorem Moves.refl {d : Debt} (s : State) : Moves d s s := Relation.ReflTransGen.refl

theorem Moves.trans {d : Debt} {s t u : State} (h : Moves d s t) (k : Moves d t u) : Moves d s u := Relation.ReflTransGen.trans h k

theorem Moves.of {d : Debt} {s t : State} (h : Move (s, d) (t, d)) : Moves d s t := Relation.ReflTransGen.single h

theorem Changes.moves {d : Debt} {s t : State} (h : Changes d s t) : Moves d s t :=
  Relation.ReflTransGen.mono (fun _ _ hchange => Move.change hchange) _ _ h

theorem Sends.moves {d : Debt} {s t : State} (h : Sends d s t) : Moves d s t :=
  Relation.ReflTransGen.mono (fun _ _ hsend => Move.sending hsend) _ _ h

/-- No move but a power-on reset moves the straps. -/
theorem straps_of_sending {a b : Stage} (h : Sending a b) : b.1.rate = a.1.rate ∧ b.1.adr = a.1.adr := by
  cases h with
  | work h => exact ⟨(sameStates_of_work h).rate, (sameStates_of_work h).adr⟩
  | readyDown | readySpur => simp
  | departDown s d src => cases src <;> exact ⟨rfl, rfl⟩
  | _ => exact ⟨rfl, rfl⟩

theorem Sends.straps {d : Debt} {s t : State} (h : Sends d s t) : t.rate = s.rate ∧ t.adr = s.adr := by
  have hrun {a b : Stage} (h : Relation.ReflTransGen Sending a b) : b.1.rate = a.1.rate ∧ b.1.adr = a.1.adr := by
    induction h with
    | refl => exact ⟨rfl, rfl⟩
    | tail _ hone ih => exact ⟨(straps_of_sending hone).1.trans ih.1, (straps_of_sending hone).2.trans ih.2⟩
  exact hrun h

theorem straps_of_move {a b : Stage} (h : Move a b) : b.1.rate = a.1.rate ∧ b.1.adr = a.1.adr := by
  cases h with
  | change h => exact ⟨(straps_of_change h).1, (straps_of_change h).2.1⟩
  | sending h => exact straps_of_sending h
  | enable s d watch => simp only [State.enableSpur]; split <;> exact ⟨rfl, rfl⟩
  | release => simp [State.releaseTx]
  | flush => rw [trafficFlush_eq]; exact ⟨rfl, rfl⟩
  | _ => exact ⟨rfl, rfl⟩

theorem Moves.straps {d : Debt} {s t : State} (h : Moves d s t) : t.rate = s.rate ∧ t.adr = s.adr := by
  have hrun {a b : Stage} (h : Relation.ReflTransGen Move a b) : b.1.rate = a.1.rate ∧ b.1.adr = a.1.adr := by
    induction h with
    | refl => exact ⟨rfl, rfl⟩
    | tail _ hone ih => exact ⟨(straps_of_move hone).1.trans ih.1, (straps_of_move hone).2.trans ih.2⟩
  exact hrun h

theorem Moves.addressed {d : Debt} {s t : State} (h : Moves d s t) : t.addressed = s.addressed := by
  rw [State.addressed, State.addressed, h.straps.2]

theorem Works.moves {d : Debt} {s t : State} (h : Works d s t) : Moves d s t := h.changes.moves

/-- The bounds that steps 4 and 5 of R138 give the arguments of a command. -/
def Command.InRange (own : Addr) : Command → Prop
  | .readPatterns _ _ _ k => k ≤ 6
  | .setReporting _ a _ => a ≠ Config.broadcast
  | .setManager _ a => a ≠ some own ∧ a ≠ some Config.broadcast
  | _ => True

theorem parseReadPatterns_inRange {own : Addr} {args : List Digit} {c : Command} (h : parseReadPatterns args = .command c) :
    Command.InRange own c := by
  unfold parseReadPatterns at h
  split at h
  · next bank page ih il k =>
    rw [unless_eq_command_iff] at h
    obtain ⟨hgood, rfl⟩ := h
    simp only [Bool.or_eq_false_iff, decide_eq_false_iff_not, BitVec.not_lt, BitVec.le_def] at hgood
    obtain ⟨⟨-, hk⟩, -⟩ := hgood
    exact hk
  · cases h

theorem parseSetReporting_inRange {own : Addr} {args : List Digit} {c : Command} (h : parseSetReporting own args = .command c) :
    Command.InRange own c := by
  unfold parseSetReporting at h
  split at h
  · rw [unless_eq_command_iff] at h
    obtain ⟨hgood, rfl⟩ := h
    simp only [Bool.or_eq_false_iff, decide_eq_false_iff_not] at hgood
    obtain ⟨⟨-, hbroadcast⟩, -⟩ := hgood
    exact hbroadcast
  · cases h

theorem parseSetManager_inRange {own : Addr} {args : List Digit} {c : Command} (h : parseSetManager own args = .command c) :
    Command.InRange own c := by
  unfold parseSetManager at h
  split at h
  · next slot present row col =>
    rw [unless_eq_command_iff] at h
    obtain ⟨hgood, rfl⟩ := h
    simp only [Bool.or_eq_false_iff, Bool.and_eq_false_iff, decide_eq_false_iff_not] at hgood
    obtain ⟨-, habsent | ⟨⟨-, hown⟩, hbroadcast⟩⟩ := hgood
    · simp [Command.InRange, habsent]
    · by_cases hpresent : present = 1#4 <;> simp [Command.InRange, hpresent, hown, hbroadcast]
  · cases h

/-- R143: a command that passes steps 4 and 5 of R138 has its arguments in range. -/
theorem parseCommand_inRange {own : Addr} {code : Digit} {args : List Digit} {c : Command}
    (h : parseCommand own code args = .command c) : Command.InRange own c := by
  unfold parseCommand at h
  split at h
  case h_8 => exact parseReadPatterns_inRange h
  case h_13 => exact parseSetReporting_inRange h
  case h_16 => exact parseSetManager_inRange h
  all_goals
    simp only [parseReset, parseLoadEntry, parseLoadBlock, parseLoadPatterns, parseBare, parseReadEntry, parseReadCounters,
      parseClear, parseSetLine, parseSetSpur, parseSetOptions] at h
    (repeat' split at h) <;> simp only [unless_eq_command_iff, reduceCtorEq, Parsed.command.injEq] at h
  all_goals (obtain ⟨-, rfl⟩ := h; trivial)

/-- R125, R126, R132: the line unit is told of the discard of these frames, whose lines are owed. -/
theorem move_discardReports (s : State) (b : Bool) (hs : List Held) :
    Relation.ReflTransGen Move (s, ⟨taggedLines hs, b⟩) (s.discardReports hs, ⟨[], b⟩) := by
  have hlines : (reportGroups hs).flatMap LineGroup.lines = taggedLines hs := by
    induction hs with
    | nil => rfl
    | cons h rest ih =>
      obtain ⟨ds, tag⟩ := h
      rw [taggedLines, List.flatMap_cons, ← taggedLines, ← ih]
      cases tag <;> simp [reportGroups]
  refine moveLines_induction (R := fun rest u => Relation.ReflTransGen Move (s, ⟨taggedLines hs, b⟩) (u, ⟨rest, b⟩)) ?_ ?_ ?_ _ s ?_
  · exact fun l rest u h => h.tail (.discarded u l rest b)
  · exact fun rest u hdue h => h.tail (.change (.work (.event u _ hdue)))
  · exact fun rest u h => h.tail (.change (.work (.book u _ _ _ _)))
  · rw [hlines]

theorem move_discardBreaks {s : State} (haddr : s.addressed = true) (d : Debt) (hs : List Held) :
    Moves d s (s.discardBreaks hs) := by
  unfold State.discardBreaks
  induction hs generalizing s with
  | nil => exact .refl s
  | cons h rest ih =>
    rw [List.foldl_cons]
    split
    · next c _ => exact (Moves.of (.settings s d (s.sup.revert c) haddr rfl rfl rfl)).trans (ih haddr)
    · exact ih haddr
    · exact ih haddr

/-- R101, R111: what a TRAFFIC reset discards is what the queues hold. -/
theorem interleave_perm {α : Type} (n : Nat) (xs ys : List α) : (interleave n xs ys).Perm (xs ++ ys) := by
  induction xs generalizing n ys with
  | nil => exact .refl _
  | cons x xs ih =>
    refine List.perm_middle.trans (List.Perm.cons x ?_)
    refine ((ih _ _).append_left _).trans ?_
    rw [← List.append_assoc]
    refine ((List.perm_append_comm).append_right _).trans ?_
    rw [List.append_assoc, List.take_append_drop]
    exact .refl _

theorem trafficLosses_perm (s : State) :
    s.trafficLosses.Perm (s.merge.transit ++ s.merge.spurReturn ++ s.merge.insertion ++ s.spur.queue) := by
  unfold State.trafficLosses
  dsimp only
  split
  · exact interleave_perm _ _ _
  · exact .refl _

/-! ### Resets (R148) -/

theorem insert_tx {s : State} (h : s.merge.tx ≠ .ready) (x : Held) : (s.insert x).merge.tx = s.merge.tx := by
  have hnot : (s.setMerge { s.merge with insertion := s.merge.insertion ++ [x] }).merge.tx ≠ .ready := h
  rw [State.insert, State.grantDown_of_not_ready hnot]
  rfl

theorem examineBreak_tx {s : State} (h : s.merge.tx ≠ .ready) : s.examineBreak.merge.tx = s.merge.tx := by
  unfold State.examineBreak
  split
  · exact insert_tx (s := s.setSup { s.sup with lastUp := s.sup.up, lastSpur := s.spur.state }) h _
  · rfl

/-- R96: what the moves of lines insert is not granted to a transmitter that is not READY. -/
theorem moveLines_tx {move : LineBlock → Fin 13 → LineBlock} {s : State} (h : s.merge.tx ≠ .ready) (groups : List LineGroup) :
    (s.moveLines move groups).merge.tx = s.merge.tx := by
  refine moveLines_induction (R := fun _ u => u.merge.tx = s.merge.tx) (fun _ _ _ hu => hu) (fun _ u _ hu => ?_)
    (fun _ _ hu => hu) groups s rfl
  exact (insert_tx (by simpa [hu] using h) _).trans hu

theorem eitherOrder_tx {f g : State → State} {P : Tx → Prop} (hf : ∀ u : State, P u.merge.tx → P (f u).merge.tx)
    (hg : ∀ u : State, P u.merge.tx → P (g u).merge.tx) {s : State} (h : P s.merge.tx) : P (s.eitherOrder f g).merge.tx := by
  unfold State.eitherOrder
  split
  · split
    · exact hg _ (hf _ h)
    · exact hf _ (hg _ h)
  · exact hg _ (hf _ h)

/-- R148: a reset is answered once its transmitter has been given back. -/
theorem moves_release {d : Debt} {s : State} (haddr : s.addressed = true) (htx : s.merge.tx = .fill 0) (tx : Tx) (f : Frame)
    (status : Digit) : Moves d s ((s.releaseTx tx.abort).answerWith f status []) := by
  have hlen : 2 ≤ [f.command, status].length ∧ [f.command, status].length ≤ 15 := by simp
  have hanswer : (s.releaseTx tx.abort).answerWith f status [] = ((s.recordReply f [f.command, status]).releaseTx tx.abort).fillReply
      (mgmtReplyFrame (s.recordReply f [f.command, status]).adr f.src f.seq [f.command, status]).digits := rfl
  have hrecord : Moves d s (s.recordReply f [f.command, status]) := (Works.of (.last s d _ haddr hlen)).moves
  rw [hanswer]
  exact hrecord.trans (.of (.release _ d tx _ _ _ haddr ⟨0, htx⟩ hlen))

theorem moves_trafficReset {s : State} (haddr : s.addressed = true) (f : Frame) (status : Digit) :
    Moves .nothing s (s.trafficReset.answerWith f status []) := by
  unfold State.trafficReset
  extract_lets lost t₁ t₂ t₃
  have ht₁ : Moves .nothing s t₁ := by
    unfold t₁; split
    · exact (works_consume s).moves
    · exact .refl s
  have hlost : lost.Perm (t₁.merge.transit ++ t₁.merge.spurReturn ++ t₁.merge.insertion ++ t₁.spur.queue) := by
    unfold t₁; split <;> exact trafficLosses_perm s
  have haddr₁ : t₁.addressed = true := by unfold t₁; split <;> exact haddr
  have hflush : Relation.ReflTransGen Move (s, .nothing) (t₁.trafficFlush, ⟨taggedLines lost, false⟩) := by
    have h := ht₁.tail (.flush t₁ .nothing lost hlost)
    simpa [Debt.nothing] using h
  have haddr₂ : t₁.trafficFlush.addressed = true := by rw [trafficFlush_eq]; exact haddr₁
  have ht₂ : Relation.ReflTransGen Move (s, .nothing) (t₂, ⟨taggedLines lost, false⟩) :=
    hflush.trans (move_discardBreaks haddr₂ _ lost)
  have ht₃ : Moves .nothing s t₃ := by
    have hreports (u : State) : Relation.ReflTransGen Move (u, ⟨taggedLines lost, false⟩) (u.discardReports lost, .nothing) :=
      move_discardReports u false lost
    have hbreak (u : State) (d : Debt) : Moves d u u.examineBreak := (works_examineBreak u).moves
    have hconsume : Relation.ReflTransGen Move (s, .nothing) (t₂.consume, ⟨taggedLines lost, false⟩) :=
      ht₂.trans (works_consume t₂).moves
    unfold t₃ State.eitherOrder
    split
    · split
      · exact (hconsume.trans (hreports _)).trans (hbreak _ _)
      · exact (hconsume.trans (hbreak _ _)).trans (hreports _)
    · exact (ht₂.trans (hreports _)).trans (hbreak _ _)
  have htx₂ : t₂.merge.tx = .fill 0 := by
    have hbreaks (hs : List Held) (u : State) : (u.discardBreaks hs).merge = u.merge := by
      unfold State.discardBreaks
      induction hs generalizing u with
      | nil => rfl
      | cons h rest ih =>
        refine (ih _).trans ?_
        dsimp only; split <;> rfl
    unfold t₂
    rw [hbreaks, trafficFlush_eq]
  have htx₃ : t₃.merge.tx = .fill 0 :=
    eitherOrder_tx (P := (· = .fill 0)) (fun u hu => (moveLines_tx (by simp [hu]) _).trans hu)
      (fun u hu => (examineBreak_tx (by simp [hu])).trans hu) htx₂
  exact ht₃.trans (moves_release (by rw [ht₃.addressed, haddr]) htx₃ s.merge.tx f status)

theorem moves_fullReset {s : State} (haddr : s.addressed = true) (f : Frame) (status : Digit) :
    Moves .nothing s (s.fullReset.answerWith f status []) := by
  have hbreak : Moves .nothing s (fullFlush s).examineBreak :=
    (Moves.of (.fullReset s .nothing haddr)).trans (works_examineBreak _).moves
  have htx : (fullFlush s).merge.tx = .fill 0 := rfl
  have htx' : (fullFlush s).examineBreak.merge.tx = .fill 0 := (examineBreak_tx (by simp [htx])).trans htx
  have haddr' : (fullFlush s).examineBreak.addressed = true := hbreak.addressed.trans haddr
  rw [fullReset_eq_fullFlush]
  exact hbreak.trans (moves_release haddr' htx' s.merge.tx f status)

/-! ### The sixteen commands (R138, R146 to R154) -/

theorem moves_answerWith {s : State} (haddr : s.addressed = true) (f : Frame) (status : Digit) {data : List Digit}
    (hdata : data.length ≤ 13) : Moves .nothing s (s.answerWith f status data) := (works_answerWith haddr f status hdata).moves

/-- A command that makes some moves and is answered. -/
theorem Moves.answered {s t : State} (h : Moves .nothing s t) (haddr : s.addressed = true) (f : Frame) (status : Digit)
    {data : List Digit} (hdata : data.length ≤ 13) : Moves .nothing s (t.answerWith f status data) :=
  h.trans (moves_answerWith (h.addressed.trans haddr) f status hdata)

theorem moves_disableSpur {s : State} (haddr : s.addressed = true) (watch : Digit) : Moves .nothing s (s.disableSpur watch) := by
  rw [disableSpur_eq]
  split
  · exact .of (.watchTime s _ watch)
  · have hoff := Relation.ReflTransGen.single (Move.disable s .nothing watch haddr)
    exact hoff.trans (by simpa [Debt.nothing] using move_discardReports (spurOff s watch) false s.spur.queue)

theorem moves_doSetSpur {s : State} (haddr : s.addressed = true) (f : Frame) (enable : Bool) (watch : Digit) :
    Moves .nothing s (s.doSetSpur f enable watch) := by
  have hdisable := (moves_disableSpur haddr watch).answered haddr f statusOk (data := []) (by simp)
  unfold State.doSetSpur
  split
  · exact (Moves.of (.enable s _ watch haddr)).answered haddr f _ (by simp)
  · split
    · exact hdisable
    · split
      · exact moves_answerWith haddr f _ (by simp [faultData])
      · exact hdisable

theorem moves_doCommit {s : State} (haddr : s.addressed = true) (hfree : s.mgmt.reply = .free) (f : Frame) :
    Moves .nothing s (s.doCommit f) := by
  unfold State.doCommit
  split
  · exact moves_answerWith haddr f _ (by simp [faultData])
  · have hreserved := Moves.of (.reserve s .nothing f.src f.seq haddr hfree)
    unfold State.acceptCommit
    dsimp only
    split
    · exact hreserved.trans (changes_swap _).moves
    · exact hreserved

theorem moves_setReporting {s : State} (haddr : s.addressed = true) (mode : ReportMode) {a : Addr} (ha : a ≠ Config.broadcast)
    (code : BitVec 2) : Moves .nothing s (s.setReporting mode a code) := by
  refine (Moves.of (.reporting s .nothing mode a code haddr ha)).trans ?_
  unfold State.setReporting
  refine (works_eitherOrder (fun u => ?_) (fun u => ?_) _).moves
  · split
    · exact works_examineEvent u
    · exact .refl u
  · split
    · exact works_examineBreak u
    · exact .refl u

/-- Steps 6 and 7 of R138, for a command that steps 4 and 5 have let pass. -/
theorem moves_execute {s : State} (haddr : s.addressed = true) (hfree : s.mgmt.reply = .free) (f : Frame) {c : Command}
    (hc : Command.InRange s.adr c) : Moves .nothing s (s.execute f c) := by
  have hmap (m : MapStore) : Moves .nothing s ((s.setMap m).answerWith f statusOk []) :=
    (Moves.of (.map s _ m haddr)).answered haddr f _ (by simp)
  have hsup {x : Supervision} (hup : x.up = s.sup.up) (hsilence : x.silenceCount = s.sup.silenceCount)
      (hrestore : x.restoreCount = s.sup.restoreCount) : Moves .nothing s ((s.setSup x).answerWith f statusOk []) :=
    (Moves.of (.settings s _ x haddr hup hsilence hrestore)).answered haddr f _ (by simp)
  cases c with
  | reset full =>
    cases full with
    | false => exact moves_trafficReset haddr f _
    | true => exact moves_fullReset haddr f _
  | loadEntry a e => exact hmap _
  | loadBlock a last e => exact hmap _
  | loadPatterns p i vs => exact hmap _
  | copyActive => exact hmap _
  | commit => exact moves_doCommit haddr hfree f
  | readEntry staging a => exact moves_answerWith haddr f _ (by simp [Entry.toDigits])
  | readPatterns staging p i k =>
    have hk : k ≤ 6 := hc
    refine moves_answerWith haddr f _ ?_
    simp only [flatMap_byteDigits_length, Bank.readPatterns, List.length_map, List.length_range']
    omega
  | status => exact moves_answerWith haddr f _ (by simp [State.statusData])
  | readCounters group =>
    refine moves_answerWith haddr f _ ?_
    simp only [State.counterData, flatMap_byteDigits_length, List.length_map, List.length_finRange]
    omega
  | clear selection => exact hsup rfl rfl rfl
  | setLine l mode edge hold => exact (Moves.of (.configure s _ l mode edge hold haddr)).answered haddr f _ (by simp)
  | setReporting mode a code => exact (moves_setReporting haddr mode hc code).answered haddr f _ (by simp)
  | setSpur enable watch => exact moves_doSetSpur haddr f enable watch
  | setOptions policy gap silence => exact hsup rfl rfl rfl
  | setManager second a => exact (Moves.of (.manager s _ second a haddr hc)).answered haddr f _ (by simp)

/-! ### Steps -/

theorem Carried.moves {Q : Frame → Prop} {s t : State} (h : Carried Q s t) : Moves .nothing s t := by
  obtain ⟨u, v, hu, ht, hv⟩ := h
  have hv' : Moves .nothing s v := by
    rcases hv with rfl | ⟨f, c, -, -, haddr, hfree, hparse, rfl⟩
    · exact hu.moves
    · refine hu.moves.trans (moves_execute (by rw [hu.moves.addressed, haddr]) hfree f ?_)
      rw [hu.adr]
      exact parseCommand_inRange hparse
  rw [ht]
  exact hv'.trans (works_setDue v _).moves

/-- A step is a run of moves, from the state before it or, at a release of RESET, from the power-on state. -/
theorem moves_step {s t : State} (h : step s = .next t) :
    Moves .nothing s t ∨ ∃ rate adr pins, Moves .nothing (State.powerOn rate adr pins) t := by
  unfold step at h
  split at h
  · cases h
    unfold State.idle
    split
    · exact .inl (.refl s)
    · exact .inl ((changes_settle s).moves.trans (sends_unitTime _).moves)
  · next c rest _ =>
    have hqueue : Moves .nothing s { s with pending := rest } := (Works.of (.book s _ s.due s.choices rest)).moves
    cases ran_exec h with
    | held ht => exact .inl (ht ▸ hqueue)
    | powerOn rate adr pins _ ht =>
      exact .inr ⟨rate, adr, pins, ht ▸ (Works.of (.book (State.powerOn rate adr pins) _ [] s.choices rest)).moves⟩
    | carried hc => exact .inl (hqueue.trans hc.moves)
    | sent u hu ht => exact .inl (hqueue.trans (hu.moves.trans ht.moves))

/-- A law of the machine, in the form in which every move keeps it: it may allow for what is owed. -/
structure Law (L : Stage → Prop) : Prop where
  powerOn (rate : BitVec 2) (adr : Addr) (pins : BitVec 12) : L (State.powerOn rate adr pins, .nothing)
  move {a b : Stage} : Move a b → L a → L b

/-- What every move keeps, every step keeps. -/
theorem Law.step {L : Stage → Prop} (hL : Law L) {s t : State} (ht : step s = .next t) (hs : L (s, .nothing)) : L (t, .nothing) := by
  have hmoves {a b : Stage} (h : Relation.ReflTransGen Move a b) (ha : L a) : L b := by
    induction h with
    | refl => exact ha
    | tail _ hmove ih => exact hL.move hmove ih
  rcases moves_step ht with h | ⟨rate, adr, pins, h⟩
  · exact hmoves h hs
  · exact hmoves h (hL.powerOn rate adr pins)

end Sys2Proof.Proofs

/-! ## Capacities, counts and runs (R9, R34, R88, R91, R92, R94, R105, R106, R160, R162) -/

namespace Sys2Proof.Proofs

open Sys2Proof Sys2Proof.Machine

/-! ### Stores -/

theorem inserted_insert_eq (s : State) (x : Held) (k : Kind) :
    (s.insert x).inserted k = s.inserted k + if x.kind = k then 1 else 0 := by
  by_cases h : x.kind = k <;> simp [State.inserted, List.filter_append, h]

/-- R94: a frame may be inserted while its allowance lasts. -/
theorem storesBounded_insert {s : State} (hs : StoresBounded s) {x : Held}
    (hx : x.kind = .reply ∧ s.inserted .reply < 2 ∨ x.kind = .event ∧ s.inserted .event = 0 ∨
      x.kind = .breakReport ∧ s.inserted .breakReport = 0) : StoresBounded (s.insert x) := by
  obtain ⟨htransit, hreturn, hqueue, hreply, hevent, hbreak, hkinds⟩ := hs
  have hkind : x.kind = .reply ∨ x.kind = .event ∨ x.kind = .breakReport := by
    rcases hx with ⟨h, -⟩ | ⟨h, -⟩ | ⟨h, -⟩ <;> simp [h]
  refine ⟨by simpa using htransit, by simpa using hreturn, by simpa using hqueue, ?_, ?_, ?_, ?_⟩
  · rw [inserted_insert_eq]
    rcases hx with ⟨h, hroom⟩ | ⟨h, -⟩ | ⟨h, -⟩ <;> simp [h] <;> omega
  · rw [inserted_insert_eq]
    rcases hx with ⟨h, -⟩ | ⟨h, hroom⟩ | ⟨h, -⟩ <;> simp [h] <;> omega
  · rw [inserted_insert_eq]
    rcases hx with ⟨h, -⟩ | ⟨h, -⟩ | ⟨h, hroom⟩ <;> simp [h] <;> omega
  · intro h hh
    rw [State.insert_merge_insertion, List.mem_append, List.mem_singleton] at hh
    rcases hh with hh | rfl
    · exact hkinds h hh
    · exact hkind

/-- R92: frames that have been claimed may enter. -/
theorem storesBounded_enter {s : State} (hs : StoresBounded s) {q : Target} {hs' : List Held}
    (hclaim : s.claim q hs'.length = true) : StoresBounded (s.enter q hs') := by
  obtain ⟨htransit, hreturn, hqueue, hinsertion⟩ := hs
  have hroom : (s.enter q hs').occupancy q ≤ q.capacity := by
    have hfree : s.occupancy q + hs'.length ≤ q.capacity := by simpa [State.claim] using hclaim
    cases q <;> simpa [State.occupancy] using hfree
  have hrest : (s.enter q hs').inserted .reply ≤ 2 ∧ (s.enter q hs').inserted .event ≤ 1 ∧
      (s.enter q hs').inserted .breakReport ≤ 1 ∧
      ∀ h ∈ (s.enter q hs').merge.insertion, h.kind = .reply ∨ h.kind = .event ∨ h.kind = .breakReport := by
    simpa [State.inserted] using hinsertion
  cases q with
  | transit => exact ⟨hroom, by simpa using hreturn, by simpa using hqueue, hrest⟩
  | spurOut => exact ⟨by simpa using htransit, by simpa using hreturn, hroom, hrest⟩
  | spurReturn => exact ⟨by simpa using htransit, hroom, by simpa using hqueue, hrest⟩

/-- What only takes frames out of the stores keeps them within their bounds. -/
theorem StoresBounded.of_sublists {s t : State} (hs : StoresBounded s) (htransit : t.merge.transit.Sublist s.merge.transit)
    (hreturn : t.merge.spurReturn.Sublist s.merge.spurReturn) (hinsertion : t.merge.insertion.Sublist s.merge.insertion)
    (hqueue : t.spur.queue.Sublist s.spur.queue) : StoresBounded t := by
  obtain ⟨h₁, h₂, h₃, hreply, hevent, hbreak, hkinds⟩ := hs
  have hcount (k : Kind) : t.inserted k ≤ s.inserted k := (hinsertion.filter _).length_le
  exact ⟨htransit.length_le.trans h₁, hreturn.length_le.trans h₂, hqueue.length_le.trans h₃, (hcount _).trans hreply,
    (hcount _).trans hevent, (hcount _).trans hbreak, fun h hh => hkinds h (hinsertion.subset hh)⟩

theorem storesBounded_work {a b : Stage} (h : Work a b) (hs : StoresBounded a.1) : StoresBounded b.1 := by
  cases h with
  | receiver s d p r => cases p <;> exact hs
  | event s d hdue =>
    have hnone : s.inserted .event = 0 := by
      simp only [State.eventDue, Bool.and_eq_true, decide_eq_true_eq] at hdue
      exact hdue.2
    exact storesBounded_insert (s := s.setLines { s.line.record s.line.eventLines with eventSeq := s.line.eventSeq + 1#4 }) (x := s.eventHeld) hs (.inr (.inl ⟨rfl, hnone⟩))
  | breakReport s d hdue =>
    have hnone : s.inserted .breakReport = 0 := by
      simp only [State.breakDue, Bool.and_eq_true, decide_eq_true_eq] at hdue
      exact hdue.1.2
    exact storesBounded_insert (s := s.setSup { s.sup with lastUp := s.sup.up, lastSpur := s.spur.state }) (x := s.breakHeld) hs (.inr (.inr ⟨rfl, hnone⟩))
  | enter s d q hs' hclaim => exact storesBounded_enter hs hclaim
  | poll s d q ls ds hclaim => exact storesBounded_enter (s := s.setLines (s.line.record ls)) (hs' := [{ digits := ds, tag := .report ls }]) hs hclaim
  | readReply s d ds hroom hkind => exact storesBounded_insert hs (.inl ⟨hkind, hroom⟩)
  | reply s d => exact StoresBounded.of_sublists (s := s) hs (by simp) (by simp) (by simp) (by simp)
  | _ => exact hs

theorem swap_merge_queues (s : State) : s.swap.merge.transit = s.merge.transit ∧ s.swap.merge.spurReturn = s.merge.spurReturn ∧
    s.swap.merge.insertion = s.merge.insertion ∧ s.swap.spur = s.spur := by
  unfold State.swap
  split
  · exact ⟨rfl, rfl, rfl, rfl⟩
  · simp [State.closeRun]

theorem storesBounded_move {a b : Stage} (h : Move a b) (hs : StoresBounded a.1) : StoresBounded b.1 := by
  cases h with
  | change h =>
    cases h with
    | work h => exact storesBounded_work h hs
    | swap s d =>
      obtain ⟨htransit, hreturn, hinsertion, hspur⟩ := swap_merge_queues s
      exact StoresBounded.of_sublists (s := s) hs (by simp [htransit]) (by simp [hreturn]) (by simp [hinsertion]) (by simp [hspur])
    | _ => exact hs
  | sending h =>
    cases h with
    | work h => exact storesBounded_work h hs
    | readyDown s d | readySpur s d => exact StoresBounded.of_sublists (s := s) hs (by simp) (by simp) (by simp) (by simp)
    | departDown s d src =>
      cases src <;> exact StoresBounded.of_sublists (s := s) hs (by simp [State.removeHead, List.tail_sublist])
        (by simp [State.removeHead, List.tail_sublist]) (by simp [State.removeHead, List.tail_sublist])
        (by simp [State.removeHead, List.tail_sublist])
    | departSpur s d => exact StoresBounded.of_sublists (s := s) hs (.refl _) (.refl _) (.refl _) (List.drop_sublist _ _)
    | _ => exact hs
  | enable s d watch =>
    simp only [State.enableSpur]
    split <;> exact hs
  | disable s d watch => exact StoresBounded.of_sublists (s := s) hs (.refl _) (List.nil_sublist _) (.refl _) (List.nil_sublist _)
  | flush s d lost =>
    rw [trafficFlush_eq]
    exact StoresBounded.of_sublists (s := s) hs (List.nil_sublist _) (List.nil_sublist _) (List.nil_sublist _) (List.nil_sublist _)
  | fullReset s d => exact StoresBounded.of_sublists (s := s) hs (List.nil_sublist _) (List.nil_sublist _) (List.nil_sublist _) (List.nil_sublist _)
  | release s d =>
    exact StoresBounded.of_sublists (s := s) hs (by simp [State.releaseTx]) (by simp [State.releaseTx])
      (by simp [State.releaseTx]) (by simp [State.releaseTx])
  | _ => exact hs

theorem storesBounded_powerOn (rate : BitVec 2) (adr : Addr) (pins : BitVec 12) : StoresBounded (State.powerOn rate adr pins) :=
  ⟨Nat.zero_le _, Nat.zero_le _, Nat.zero_le _, Nat.zero_le _, Nat.zero_le _, Nat.zero_le _, fun _ h => absurd h List.not_mem_nil⟩

theorem law_storesBounded : Law fun a => StoresBounded a.1 := ⟨storesBounded_powerOn, storesBounded_move⟩

/-! ### Counts and buffers -/

theorem abandon_buffer (r : Receiver) (h : r.buffer.length ≤ 24) : r.abandon.buffer.length ≤ 24 := by
  unfold Receiver.abandon
  split
  · simp
  · exact h

theorem countsInRange_work {a b : Stage} (h : Work a b) (hs : CountsInRange a.1) : CountsInRange b.1 := by
  obtain ⟨hgap, hsilence, hwatch, hup, hspur, hurx, hsrx⟩ := id hs
  cases h with
  | gap s d n hn => exact ⟨hn, hsilence, hwatch, hup, hspur, hurx, hsrx⟩
  | upCounts s d a b ha hb => exact ⟨hgap, ha, hwatch, hb.elim id (· ▸ hup), hspur, hurx, hsrx⟩
  | spurCounts s d a b ha hb => exact ⟨hgap, hsilence, ha, hup, hb.elim id (· ▸ hspur), hurx, hsrx⟩
  | receiver s d p r hr =>
    cases p with
    | upstream => exact ⟨hgap, hsilence, hwatch, hup, hspur, hr, hsrx⟩
    | spur => exact ⟨hgap, hsilence, hwatch, hup, hspur, hurx, hr⟩
  | event | breakReport | enter | poll | readReply | reply =>
    simpa [CountsInRange, State.buildEvent, State.buildBreak] using hs
  | _ => exact hs

theorem countsInRange_move {a b : Stage} (h : Move a b) (hs : CountsInRange a.1) : CountsInRange b.1 := by
  obtain ⟨hgap, hsilence, hwatch, hup, hspur, hurx, hsrx⟩ := id hs
  cases h with
  | change h =>
    cases h with
    | work h => exact countsInRange_work h hs
    | silent => exact ⟨hgap, hsilence, hwatch, Nat.zero_le _, hspur, hurx, hsrx⟩
    | live => exact ⟨hgap, Nat.zero_le _, hwatch, Nat.zero_le _, hspur, hurx, hsrx⟩
    | spur s d x w _ _ hw => exact ⟨hgap, hsilence, hw.elim (fun h => h.trans_le (Nat.zero_le _)) (· ▸ hwatch), hup, Nat.zero_le _, hurx, hsrx⟩
    | swap s d =>
      unfold State.swap
      split
      · exact hs
      · simpa [CountsInRange, State.closeRun] using hs
  | sending h =>
    cases h with
    | work h => exact countsInRange_work h hs
    | readyDown | readySpur => simpa [CountsInRange] using hs
    | departDown s d src => cases src <;> exact hs
    | _ => exact hs
  | enable s d watch =>
    simp only [State.enableSpur]
    split
    · exact ⟨hgap, hsilence, Nat.zero_le _, hup, Nat.zero_le _, hurx, Nat.zero_le _⟩
    · exact hs
  | disable s d watch => exact ⟨hgap, hsilence, Nat.zero_le _, hup, Nat.zero_le _, hurx, Nat.zero_le _⟩
  | flush s d lost =>
    rw [trafficFlush_eq]
    exact ⟨Nat.zero_le _, hsilence, hwatch, hup, hspur, abandon_buffer _ hurx, abandon_buffer _ hsrx⟩
  | fullReset => exact ⟨Nat.zero_le _, hsilence, Nat.zero_le _, hup, Nat.zero_le _, abandon_buffer _ hurx, Nat.zero_le _⟩
  | release => simpa [CountsInRange, State.releaseTx] using hs
  | settings s d x haddr hx hs' hr => exact ⟨hgap, hs' ▸ hsilence, hwatch, hr ▸ hup, hspur, hurx, hsrx⟩
  | _ => exact hs

theorem countsInRange_powerOn (rate : BitVec 2) (adr : Addr) (pins : BitVec 12) : CountsInRange (State.powerOn rate adr pins) :=
  ⟨Nat.zero_le _, Nat.zero_le _, Nat.zero_le _, Nat.zero_le _, Nat.zero_le _, Nat.zero_le _, Nat.zero_le _⟩

theorem law_countsInRange : Law fun a => CountsInRange a.1 := ⟨countsInRange_powerOn, countsInRange_move⟩

/-! ### Runs -/

/-- R88, R91 in the middle of a step: the run that is open has a LIVE upstream side, or its closing is owed. -/
def RunLawOwing (a : Stage) : Prop := a.2.run = false → RunLaw a.1

theorem runLaw_work {a b : Stage} (h : Work a b) (hs : RunLawOwing a) : RunLawOwing b := by
  intro hpaid
  cases h with
  | run s d r hr =>
    rintro hopen
    rcases hr with rfl | hwas | ⟨hup, -⟩
    · cases hopen
    · exact hs hpaid hwas
    · exact hup
  | runPaid s d => intro hopen; cases hopen
  | receiver s d p r => cases p <;> exact hs hpaid
  | event | breakReport | enter | poll | readReply | reply =>
    simpa [RunLaw, State.buildEvent, State.buildBreak] using hs hpaid
  | _ => exact hs hpaid

theorem runLaw_of_closed {s : State} (h : s.run = .closed) : RunLaw s := by
  intro hopen; rw [h] at hopen; cases hopen

theorem runLaw_move {a b : Stage} (h : Move a b) (hs : RunLawOwing a) : RunLawOwing b := by
  intro hpaid
  cases h with
  | change h =>
    cases h with
    | work h => exact runLaw_work h hs hpaid
    | silent => cases hpaid
    | live => exact fun _ => rfl
    | swap s d hc =>
      unfold State.swap
      split
      · exact hs hpaid
      · exact runLaw_of_closed (by simp [State.closeRun])
    | spur => exact hs hpaid
  | sending h =>
    cases h with
    | work h => exact runLaw_work h hs hpaid
    | readyDown | readySpur => simpa [RunLaw] using hs hpaid
    | departDown s d src => cases src <;> exact hs hpaid
    | _ => exact hs hpaid
  | enable s d watch =>
    simp only [State.enableSpur]
    split <;> exact hs hpaid
  | flush s d lost => exact runLaw_of_closed (by rw [trafficFlush_eq])
  | fullReset s d => exact runLaw_of_closed rfl
  | release => simpa [RunLaw, State.releaseTx] using hs hpaid
  | settings s d x haddr hup => exact fun hopen => hup.trans (hs hpaid hopen)
  | _ => exact hs hpaid

theorem runLaw_powerOn (rate : BitVec 2) (adr : Addr) (pins : BitVec 12) : RunLaw (State.powerOn rate adr pins) :=
  runLaw_of_closed rfl

theorem law_runLaw : Law RunLawOwing := ⟨fun rate adr pins _ => runLaw_powerOn rate adr pins, runLaw_move⟩

/-- Settles O51: each of the three laws is kept by every move, the law of runs with the closing that is owed. -/
theorem capacitiesAndCountsStayInRange : Obligations.CapacitiesAndCountsStayInRange := fun _ _ ht =>
  ⟨law_storesBounded.step ht, law_countsInRange.step ht, fun hs => law_runLaw.step ht (fun _ => hs) rfl⟩

end Sys2Proof.Proofs

/-! ## Held frames (R3, R14) -/

namespace Sys2Proof.Proofs

open Sys2Proof Sys2Proof.Machine

/-! ### What the stores hold after a grant, an entry, an insertion and a reply -/

@[simp] theorem framesOf_grantDown (s : State) (src : Source) : s.grantDown.framesOf src = s.framesOf src := by
  by_cases htx : s.merge.tx = .ready
  · by_cases hr : ∃ ds, s.mgmt.reply = .full ds
    · obtain ⟨ds, hds⟩ := hr
      rw [State.grantDown_reply htx hds]
      cases src <;> simp [State.framesOf, hds]
    · have hr' : ∀ ds, s.mgmt.reply ≠ .full ds := fun ds h => hr ⟨ds, h⟩
      cases hw : s.cycleWinner with
      | none => rw [State.grantDown_none hr' hw]
      | some i => rw [State.grantDown_queue htx hr' hw]; cases src <;> rfl
  · rw [State.grantDown_of_not_ready htx]

@[simp] theorem framesOf_grantSpur (s : State) (src : Source) : s.grantSpur.framesOf src = s.framesOf src := by
  cases src <;> simp [State.framesOf]

/-- The store of a queue that intake claims. -/
def Target.store (q : Target) : Source :=
  match q with
  | .transit => .transit
  | .spurOut => .spurOut
  | .spurReturn => .spurReturn

theorem framesOf_enter (s : State) (q : Target) (hs : List Held) (src : Source) :
    (s.enter q hs).framesOf src = if src = Target.store q then s.framesOf src ++ hs else s.framesOf src := by
  cases q <;> simp only [State.enter, framesOf_grantDown, framesOf_grantSpur] <;> cases src <;> rfl

theorem framesOf_insert (s : State) (h : Held) (src : Source) :
    (s.insert h).framesOf src = if src = .insertion then s.framesOf src ++ [h] else s.framesOf src := by
  simp only [State.insert, framesOf_grantDown]
  cases src <;> rfl

theorem framesOf_fillReply (s : State) (ds : List Digit) (src : Source) :
    (s.fillReply ds).framesOf src = if src = .reply then [Held.plain ds] else s.framesOf src := by
  simp only [State.fillReply, framesOf_grantDown]
  cases src <;> rfl

/-- A frame that leaves its store leaves the others as they are. -/
theorem framesOf_removeHead (s : State) (src x : Source) :
    (s.removeHead src).framesOf x = if x = src ∧ src ≠ .reply then (s.framesOf x).drop 1
      else if x = src then [] else s.framesOf x := by
  cases src <;> cases x <;> simp [State.removeHead, State.framesOf]

/-! ### The law -/

/-- R14 for the stores alone. -/
def StoresSendable (s : State) : Prop := ∀ src, ∀ h ∈ s.framesOf src, Sendable h.digits

/-- R14 for the recorded reply. -/
def RecordSendable (m : Management) : Prop := ∀ r, m.last = some r → 2 ≤ r.payload.length ∧ r.payload.length ≤ 15

theorem storesSendable_enter {s : State} (hs : StoresSendable s) {q : Target} {hs' : List Held}
    (hnew : ∀ h ∈ hs', Sendable h.digits) : StoresSendable (s.enter q hs') := by
  intro src h hh
  rw [framesOf_enter] at hh
  split at hh
  · exact (List.mem_append.mp hh).elim (hs src h) (hnew h)
  · exact hs src h hh

theorem storesSendable_insert {s : State} (hs : StoresSendable s) {x : Held} (hx : Sendable x.digits) :
    StoresSendable (s.insert x) := by
  intro src h hh
  rw [framesOf_insert] at hh
  split at hh
  · exact (List.mem_append.mp hh).elim (hs src h) fun he => List.mem_singleton.mp he ▸ hx
  · exact hs src h hh

theorem storesSendable_fillReply {s : State} (hs : StoresSendable s) {ds : List Digit} (hds : Sendable ds) :
    StoresSendable (s.fillReply ds) := by
  intro src h hh
  rw [framesOf_fillReply] at hh
  split at hh
  · exact List.mem_singleton.mp hh ▸ hds
  · exact hs src h hh

/-- What only takes frames out of the stores keeps them sendable. -/
theorem StoresSendable.of_subset {s t : State} (hs : StoresSendable s) (h : ∀ src, t.framesOf src ⊆ s.framesOf src) :
    StoresSendable t := fun src x hx => hs src x (h src hx)

theorem eventHeld_sendable (s : State) : Sendable s.eventHeld.digits := by
  refine sendable_digits ?_
  have hpairs : ∀ l : Fin 13, [lineDigit l, (s.line.catchOf l).c].length = 2 := fun _ => rfl
  have hlines : s.line.eventLines.length ≤ 7 := by simp [LineBlock.eventLines]
  show (s.line.eventLines.flatMap fun l => [lineDigit l, (s.line.catchOf l).c]).length ≤ 15
  simp [List.length_flatMap]
  omega

theorem breakHeld_sendable (s : State) : Sendable s.breakHeld.digits := sendable_digits (by simp [breakFrame])

theorem framesSendable_iff (s : State) : FramesSendable s ↔ StoresSendable s ∧ RecordSendable s.mgmt := Iff.rfl

/-- R144: the reply to a command may be sent, if it is built from a recorded payload that may be. -/
theorem mgmtReply_sendable {s : State} (hs : RecordSendable s.mgmt) {src : Addr} {seq : Digit} {payload : List Digit}
    (hlen : 2 ≤ payload.length ∧ payload.length ≤ 15 ∨ ∃ r, s.mgmt.last = some r ∧ r.payload = payload) :
    Sendable (mgmtReplyFrame s.adr src seq payload).digits := by
  refine sendable_digits ?_
  rcases hlen with ⟨-, h⟩ | ⟨r, hr, rfl⟩
  · exact h
  · exact (hs r hr).2

theorem framesSendable_work {a b : Stage} (h : Work a b) (hs : FramesSendable a.1) : FramesSendable b.1 := by
  obtain ⟨hstores, hrecord⟩ := (framesSendable_iff _).mp hs
  cases h with
  | receiver s d p r => cases p <;> exact hs
  | event s d =>
    exact ⟨storesSendable_insert (s := s.setLines { s.line.record s.line.eventLines with eventSeq := s.line.eventSeq + 1#4 })
      hstores (eventHeld_sendable s), by simpa [RecordSendable, State.buildEvent] using hrecord⟩
  | breakReport s d =>
    exact ⟨storesSendable_insert (s := s.setSup { s.sup with lastUp := s.sup.up, lastSpur := s.spur.state })
      hstores (breakHeld_sendable s), by simpa [RecordSendable, State.buildBreak] using hrecord⟩
  | enter s d q hs' _ hheld =>
    exact ⟨storesSendable_enter hstores fun h hh => (hheld h hh).2, by simpa [RecordSendable] using hrecord⟩
  | poll s d q ls ds _ hds =>
    exact ⟨storesSendable_enter (s := s.setLines (s.line.record ls)) hstores
      fun h hh => List.mem_singleton.mp hh ▸ hds, by simpa [RecordSendable] using hrecord⟩
  | readReply s d ds _ _ hds => exact ⟨storesSendable_insert hstores hds, by simpa [RecordSendable] using hrecord⟩
  | reply s d src seq payload _ hlen =>
    exact ⟨storesSendable_fillReply hstores (mgmtReply_sendable hrecord hlen), by simpa [RecordSendable] using hrecord⟩
  | last s d r _ hlen => exact ⟨hstores, fun r' hr' => by cases hr'; exact hlen⟩
  | _ => exact hs

/-- R40, R156: the swap of a pending commit fills the reply slot of a part whose banks have changed roles and whose run is closed. -/
theorem swap_of_commit {s : State} {src : Addr} {seq : Digit} (h : s.mgmt.commit = some (src, seq)) :
    s.swap = State.fillReply
      { s with
        map := s.map.exchange
        run := .closed
        mgmt := { s.mgmt with
          last := some ⟨src, seq, 0x5#4, commitPayload (s.map.generation + 1#4)⟩
          commit := none } }
      (mgmtReplyFrame s.adr src seq (commitPayload (s.map.generation + 1#4))).digits := by
  unfold State.swap
  rw [h]
  rfl

theorem swap_of_no_commit {s : State} (h : s.mgmt.commit = none) : s.swap = s := by
  unfold State.swap
  rw [h]

theorem framesSendable_swap {s : State} (hs : FramesSendable s) : FramesSendable s.swap := by
  cases hc : s.mgmt.commit with
  | none => rwa [swap_of_no_commit hc]
  | some c =>
    rw [swap_of_commit hc]
    refine (framesSendable_iff _).mpr ⟨storesSendable_fillReply ?_ (sendable_digits ?_), fun r hr => ?_⟩
    · exact hs.1
    · simp [mgmtReplyFrame, commitPayload]
    simp only [State.fillReply_mgmt_last, Option.some.injEq] at hr
    subst hr
    simp [commitPayload]

theorem framesSendable_move {a b : Stage} (h : Move a b) (hs : FramesSendable a.1) : FramesSendable b.1 := by
  obtain ⟨hstores, hrecord⟩ := (framesSendable_iff _).mp hs
  cases h with
  | change h =>
    cases h with
    | work h => exact framesSendable_work h hs
    | swap s d => exact framesSendable_swap hs
    | _ => exact hs
  | sending h =>
    cases h with
    | work h => exact framesSendable_work h hs
    | readyDown s d u =>
      exact ⟨fun src => by rw [framesOf_grantDown]; exact hstores src, by simpa [RecordSendable] using hrecord⟩
    | readySpur s d u =>
      exact ⟨fun src => by rw [framesOf_grantSpur]; exact hstores src, by simpa [RecordSendable] using hrecord⟩
    | departDown s d src n u =>
      refine ⟨StoresSendable.of_subset hstores fun x => ?_, by cases src <;> exact hrecord⟩
      show (s.removeHead src).framesOf x ⊆ s.framesOf x
      rw [framesOf_removeHead]
      split_ifs
      · exact List.drop_subset _ _
      · exact List.nil_subset _
      · exact fun _ h => h
    | departSpur s d u =>
      refine ⟨StoresSendable.of_subset hstores fun x => ?_, hrecord⟩
      cases x with
      | spurOut => exact List.drop_subset _ _
      | _ => exact fun _ h => h
    | _ => exact hs
  | manager s d second => cases second <;> exact hs
  | reserve s d =>
    refine ⟨StoresSendable.of_subset hstores fun x => ?_, hrecord⟩
    cases x with
    | reply => exact List.nil_subset _
    | _ => exact fun _ h => h
  | enable s d watch =>
    simp only [State.enableSpur]
    split <;> exact hs
  | disable s d watch =>
    refine ⟨StoresSendable.of_subset hstores fun x => ?_, hrecord⟩
    cases x with
    | spurOut | spurReturn => exact List.nil_subset _
    | _ => exact fun _ h => h
  | flush s d lost =>
    rw [trafficFlush_eq]
    refine ⟨StoresSendable.of_subset hstores fun x => ?_, hrecord⟩
    cases x with
    | reply => exact fun _ h => h
    | _ => exact List.nil_subset _
  | fullReset s d =>
    refine ⟨StoresSendable.of_subset hstores fun x => ?_, hrecord⟩
    cases x with
    | reply => exact fun _ h => h
    | _ => exact List.nil_subset _
  | release s d tx src seq payload _ _ hlen =>
    exact ⟨storesSendable_fillReply (s := s.releaseTx tx.abort) hstores (mgmtReply_sendable hrecord (.inl hlen)),
      by simpa [RecordSendable, State.releaseTx] using hrecord⟩
  | _ => exact hs

theorem framesSendable_powerOn (rate : BitVec 2) (adr : Addr) (pins : BitVec 12) :
    FramesSendable (State.powerOn rate adr pins) := by
  refine ⟨fun src h hh => ?_, fun r hr => by cases hr⟩
  cases src <;> cases hh

theorem law_framesSendable : Law fun a => FramesSendable a.1 := ⟨framesSendable_powerOn, framesSendable_move⟩

/-- Settles O52: every frame that a move enters may be sent, and every other move takes frames out or leaves them. -/
theorem heldFramesStaySendable : Obligations.HeldFramesStaySendable := fun _ _ ht hs => law_framesSendable.step ht hs

end Sys2Proof.Proofs

/-! ## The catch records and line records after a move (R122 to R126, R133) -/

namespace Sys2Proof.Proofs

open Sys2Proof Sys2Proof.Machine

theorem pinLine_injective {i j : Fin 12} (h : pinLine i = pinLine j) : i = j := by
  simpa [pinLine, Fin.ext_iff] using h

theorem pinLine_ne_pseudoLine (i : Fin 12) : pinLine i ≠ pseudoLine := by
  simp only [pinLine, pseudoLine, ne_eq, Fin.ext_iff]
  have := i.isLt
  show ¬i.val = 12
  omega

/-- A line is one with a pin, or the pseudo-line. -/
theorem pinLine_or_pseudoLine (l : Fin 13) : (∃ i, l = pinLine i) ∨ l = pseudoLine := by
  by_cases h : l.val < 12
  · exact .inl ⟨⟨l.val, h⟩, rfl⟩
  · exact .inr (Fin.ext (show l.val = 12 by omega))

@[simp] theorem retire_pinLine (b : LineBlock) (i : Fin 12) : b.retire (pinLine i) = b.lines[i].retire := by
  simp [LineBlock.retire, pinLine]

@[simp] theorem retire_pseudoLine (b : LineBlock) : b.retire pseudoLine = false := rfl

@[simp] theorem catches_pinLine (b : LineBlock) (i : Fin 12) : b.catches_ (pinLine i) = decide (b.lines[i].mode = .catching) :=
  dif_pos i.isLt

@[simp] theorem catches_pseudoLine (b : LineBlock) : b.catches_ pseudoLine = true := rfl

theorem onEdge_eq_edgeMove (b : LineBlock) (l : Fin 13) (k : Catch) : k.onEdge (b.retire l) = edgeMove b l k := rfl

theorem lines_clearRetire (b : LineBlock) (l : Fin 13) (i : Fin 12) :
    (b.clearRetire l).lines[i] = { b.lines[i] with retire := b.lines[i].retire && !decide (pinLine i = l) } := by
  have hval : pinLine i = l ↔ i.val = l.val := by simp [pinLine, Fin.ext_iff]
  simp only [LineBlock.clearRetire, tabulate_getElem]
  by_cases h : i.val = l.val
  · simp [h, hval.mpr h]
  · simp [h, hval]

/-- What a move of a line, as the manual tells it, does to the line unit: the catch record of the line itself moves, and that of no
other; the retire field of the line itself may be cleared; and nothing else of the line unit changes. -/
structure MovesBy (f : LineBlock → Fin 13 → LineBlock) (move : LineBlock → Fin 13 → Catch → Catch) (clears : Bool) : Prop where
  catchOf (b : LineBlock) (l m : Fin 13) : (f b l).catchOf m = if m = l then move b l (b.catchOf l) else b.catchOf m
  lines (b : LineBlock) (l : Fin 13) (i : Fin 12) :
    (f b l).lines[i] = { b.lines[i] with retire := b.lines[i].retire && !(clears && decide (pinLine i = l)) }
  rest (b : LineBlock) (l : Fin 13) : f b l = { b with lines := (f b l).lines, catches := (f b l).catches }
  /-- A move looks at the line's own retire field and at whether the line catches. -/
  looks (b c : LineBlock) (l : Fin 13) : b.retire l = c.retire l → b.catches_ l = c.catches_ l → move b l = move c l

theorem movesBy_edge : MovesBy LineBlock.edge edgeMove false where
  catchOf := LineBlock.catchOf_edge
  lines b l i := by simp [LineBlock.edge]
  rest b l := rfl
  looks b c l hr _ := by funext k; simp only [edgeMove, hr]

theorem departure_eq (b : LineBlock) (l : Fin 13) :
    b.departure l = if b.retire l then (b.setCatch l (departureMove b l (b.catchOf l))).clearRetire l
      else b.setCatch l (departureMove b l (b.catchOf l)) := by
  unfold LineBlock.departure
  by_cases h : b.retire l = true
  · rw [if_pos h, if_pos h]; simp [departureMove, h, Catch.onRetired, Catch.empty]
  · rw [if_neg h, if_neg h]; simp [departureMove, h, Catch.onDeparture, Catch.empty]

theorem discard_eq (b : LineBlock) (l : Fin 13) :
    b.discard l = if b.retire l then (b.setCatch l (discardMove b l (b.catchOf l))).clearRetire l
      else b.setCatch l (discardMove b l (b.catchOf l)) := by
  unfold LineBlock.discard
  by_cases h : b.retire l = true
  · rw [if_pos h, if_pos h]; simp [discardMove, h, Catch.onRetired, Catch.empty]
  · rw [if_neg h, if_neg h]; simp [discardMove, h, Catch.onDiscard]

/-- R124 to R126: a move that sets the catch record of its line, and clears the line's retire field where that is set. -/
theorem movesBy_of_eq {f : LineBlock → Fin 13 → LineBlock} {move : LineBlock → Fin 13 → Catch → Catch}
    (heq : ∀ b l, f b l = if b.retire l then (b.setCatch l (move b l (b.catchOf l))).clearRetire l
      else b.setCatch l (move b l (b.catchOf l)))
    (hlooks : ∀ (b c : LineBlock) (l : Fin 13), b.retire l = c.retire l → b.catches_ l = c.catches_ l → move b l = move c l) :
    MovesBy f move true where
  catchOf b l m := by
    have hset : (b.setCatch l (move b l (b.catchOf l))).catchOf m = if m = l then move b l (b.catchOf l) else b.catchOf m := by
      by_cases h : m = l
      · subst h; simp
      · rw [if_neg h, LineBlock.catchOf_setCatch_other _ _ h]
    rw [heq]
    split
    · rw [LineBlock.catchOf_clearRetire, hset]
    · exact hset
  lines b l i := by
    rw [heq]
    split
    · rw [lines_clearRetire]; rfl
    · next h =>
      by_cases hl : pinLine i = l
      · subst hl
        have hr : b.lines[i].retire = false := by simpa using h
        simp only [LineBlock.lines_setCatch, hr, Bool.false_and]
        rw [← hr]
      · simp [hl]
  rest b l := by
    rw [heq]
    split <;> rfl
  looks := hlooks

theorem movesBy_departure : MovesBy LineBlock.departure departureMove true :=
  movesBy_of_eq departure_eq fun b c l hr hc => by funext k; simp only [departureMove, hr, hc]

theorem movesBy_discard : MovesBy LineBlock.discard discardMove true :=
  movesBy_of_eq discard_eq fun b c l hr hc => by funext k; simp only [discardMove, hr, hc]

section

variable {f : LineBlock → Fin 13 → LineBlock} {move : LineBlock → Fin 13 → Catch → Catch} {clears : Bool}

theorem MovesBy.reportMode (hf : MovesBy f move clears) (b : LineBlock) (l : Fin 13) : (f b l).reportMode = b.reportMode := by
  rw [hf.rest]

theorem MovesBy.retire_other (hf : MovesBy f move clears) (b : LineBlock) {l m : Fin 13} (h : m ≠ l) :
    (f b l).retire m = b.retire m := by
  rcases pinLine_or_pseudoLine m with ⟨i, rfl⟩ | rfl
  · rw [retire_pinLine, retire_pinLine, hf.lines]; simp [h]
  · rfl

theorem MovesBy.catches_ (hf : MovesBy f move clears) (b : LineBlock) (l m : Fin 13) : (f b l).catches_ m = b.catches_ m := by
  rcases pinLine_or_pseudoLine m with ⟨i, rfl⟩ | rfl
  · rw [catches_pinLine, catches_pinLine, hf.lines]
  · rfl

end

/-! ### SET LINE (R133) -/

theorem catchOf_configure (b : LineBlock) (l : Fin 12) (mode : LineMode) (edge : Edge) (hold : Digit) (m : Fin 13) :
    (b.configure l mode edge hold).catchOf m =
      if m = pinLine l then ((b.catchOf (pinLine l)).onSetLine b.lines[l].mode mode b.lines[l].retire).2 else b.catchOf m := by
  by_cases h : m = pinLine l
  · subst h; rw [if_pos rfl]; exact LineBlock.catchOf_setCatch_same b (pinLine l) _
  · rw [if_neg h]; exact LineBlock.catchOf_setCatch_other b _ h

theorem lines_configure (b : LineBlock) (l : Fin 12) (mode : LineMode) (edge : Edge) (hold : Digit) (i : Fin 12) :
    (b.configure l mode edge hold).lines[i] =
      if i = l then
        { mode := mode, edge := edge, hold := hold, sampled := b.lines[l].sampled, run := 0#4, qualified := b.lines[l].sampled,
          retire := ((b.catchOf (pinLine l)).onSetLine b.lines[l].mode mode b.lines[l].retire).1 }
      else b.lines[i] := by
  by_cases h : i = l
  · subst h; simp [LineBlock.configure]
  · have hv : l.val ≠ i.val := fun e => h (Fin.ext e).symm
    simp [LineBlock.configure, h, Vector.getElem_set_ne, hv]

end Sys2Proof.Proofs

/-! ## Reported lines and catch states (R113, R122 to R127, R133) -/

namespace Sys2Proof.Proofs

open Sys2Proof Sys2Proof.Machine

/-! ### One record for each REPORTING line -/

/-- R127: the lines of a list, none of them twice, are those REPORTING. -/
def OneRecord (b : LineBlock) (ls : List (Fin 13)) : Prop :=
  ls.Nodup ∧ ∀ l, (b.catchOf l).state = .reporting ↔ l ∈ ls

theorem OneRecord.perm {b : LineBlock} {ls ms : List (Fin 13)} (h : OneRecord b ls) (hp : ls.Perm ms) : OneRecord b ms :=
  ⟨hp.nodup_iff.mp h.1, fun l => (h.2 l).trans hp.mem_iff⟩

theorem OneRecord.of_states {b c : LineBlock} {ls : List (Fin 13)} (h : OneRecord b ls)
    (hs : ∀ l, (c.catchOf l).state = .reporting ↔ (b.catchOf l).state = .reporting) : OneRecord c ls :=
  ⟨h.1, fun l => (hs l).trans (h.2 l)⟩

/-- R123: CAUGHT lines that are recorded in a frame join those REPORTING. -/
theorem oneRecord_record {b : LineBlock} {ls ms : List (Fin 13)} (h : OneRecord b ms) (hnodup : ls.Nodup)
    (hcaught : ∀ l ∈ ls, (b.catchOf l).state = .caught) : OneRecord (b.record ls) (ls ++ ms) := by
  refine ⟨List.nodup_append'.mpr ⟨hnodup, h.1, fun l hl hm => ?_⟩, fun l => ?_⟩
  · have := (h.2 l).mpr hm
    rw [hcaught l hl] at this
    cases this
  · rw [LineBlock.catchOf_record, List.mem_append]
    by_cases hl : l ∈ ls
    · simp [hl, Catch.onRecord]
    · simp [hl, h.2 l]

/-- R124 to R126: a line whose frame is gone is no more REPORTING. -/
theorem oneRecord_gone {f : LineBlock → Fin 13 → LineBlock} {move : LineBlock → Fin 13 → Catch → Catch} {clears : Bool}
    (hf : MovesBy f move clears) (hmove : ∀ b l k, (move b l k).state ≠ .reporting) {b : LineBlock} {l : Fin 13}
    {ls : List (Fin 13)} (h : OneRecord b (l :: ls)) : OneRecord (f b l) ls := by
  obtain ⟨hl, hnodup⟩ := List.nodup_cons.mp h.1
  refine ⟨hnodup, fun m => ?_⟩
  rw [hf.catchOf]
  split
  · next hm => subst hm; exact ⟨fun hr => absurd hr (hmove _ _ _), fun hm => absurd hm hl⟩
  · next hm => simpa [hm] using h.2 m

theorem departureMove_not_reporting (b : LineBlock) (l : Fin 13) (k : Catch) : (departureMove b l k).state ≠ .reporting := by
  unfold departureMove
  by_cases hr : b.retire l = true
  · rw [if_pos hr]; by_cases hc : b.catches_ l = true <;> simp [hc]
  · rw [if_neg hr]; by_cases hn : k.n = 0#4 <;> simp [hn]

theorem discardMove_not_reporting (b : LineBlock) (l : Fin 13) (k : Catch) : (discardMove b l k).state ≠ .reporting := by
  unfold discardMove
  by_cases hr : b.retire l = true
  · rw [if_pos hr]; by_cases hc : b.catches_ l = true <;> simp [hc]
  · rw [if_neg hr]; simp

theorem reporting_edgeMove (b : LineBlock) (l : Fin 13) (k : Catch) :
    (edgeMove b l k).state = .reporting ↔ k.state = .reporting := by
  unfold edgeMove
  cases hk : k.state with
  | reporting => by_cases hr : b.retire l = true <;> simp [hr, hk]
  | _ => simp [hk]

theorem reporting_onSetLine (k : Catch) (old new : LineMode) (retire : Bool) :
    (k.onSetLine old new retire).2.state = .reporting ↔ k.state = .reporting := by
  unfold Catch.onSetLine
  cases hk : k.state with
  | reporting =>
    by_cases h : (retire = false ∧ old = .catching) ∧ new ≠ .catching <;> simp [h, hk]
  | _ => by_cases h : new = .catching <;> simp [h, hk, Catch.empty]

/-! ### Catch states that fit their lines -/

/-- R113, R126, R133 for one line with a pin. -/
def CatchFits (x : Line) (k : Catch) : Prop :=
  (x.retire = true → k.state = .reporting) ∧ (x.mode = .catching → k.state ≠ .none) ∧
  (x.mode ≠ .catching → k.state = .none ∨ x.retire = true)

/-- R113, R126, R133 for the line unit. -/
def BlockFits (b : LineBlock) : Prop :=
  (∀ i : Fin 12, CatchFits b.lines[i] (b.catchOf (pinLine i))) ∧ (b.catchOf pseudoLine).state ≠ .none

theorem catchLaw_iff (s : State) : CatchLaw s ↔ BlockFits s.line := Iff.rfl

/-- A move that keeps the mode and the retire field of every line, and NONE and REPORTING as they are, keeps the fit. -/
theorem BlockFits.of_states {b c : LineBlock} (h : BlockFits b)
    (hlines : ∀ i : Fin 12, (c.lines[i]).mode = (b.lines[i]).mode ∧ (c.lines[i]).retire = (b.lines[i]).retire)
    (hnone : ∀ l, (c.catchOf l).state = .none ↔ (b.catchOf l).state = .none)
    (hrep : ∀ l, (b.catchOf l).state = .reporting → (c.catchOf l).state = .reporting) : BlockFits c := by
  refine ⟨fun i => ?_, fun hn => h.2 ((hnone _).mp hn)⟩
  obtain ⟨hmode, hretire⟩ := hlines i
  obtain ⟨h₁, h₂, h₃⟩ := h.1 i
  exact ⟨fun hr => hrep _ (h₁ (hretire ▸ hr)), fun hm hn => h₂ (hmode ▸ hm) ((hnone _).mp hn),
    fun hm => (h₃ (hmode ▸ hm)).imp (hnone _).mpr (hretire ▸ ·)⟩

theorem none_edgeMove (b : LineBlock) (l : Fin 13) (k : Catch) : (edgeMove b l k).state = .none ↔ k.state = .none := by
  unfold edgeMove
  cases hk : k.state with
  | reporting => by_cases hr : b.retire l = true <;> simp [hr, hk]
  | _ => simp [hk]

theorem blockFits_edge {b : LineBlock} (h : BlockFits b) (l : Fin 13) : BlockFits (b.edge l) := by
  refine h.of_states (fun i => ⟨rfl, rfl⟩) (fun m => ?_) fun m hm => ?_
  · rw [movesBy_edge.catchOf]; split
    · next e => subst e; exact none_edgeMove _ _ _
    · exact Iff.rfl
  · rw [movesBy_edge.catchOf]; split
    · next e => subst e; exact (reporting_edgeMove _ _ _).mpr hm
    · exact hm

theorem blockFits_record {b : LineBlock} (h : BlockFits b) {ls : List (Fin 13)} (hcaught : ∀ l ∈ ls, (b.catchOf l).state = .caught) :
    BlockFits (b.record ls) := by
  refine h.of_states (fun i => by rw [record_lines]; exact ⟨rfl, rfl⟩) (fun m => ?_) fun m hm => ?_
  · rw [LineBlock.catchOf_record]; split
    · next hl => simp [Catch.onRecord, hcaught m hl]
    · exact Iff.rfl
  · rw [LineBlock.catchOf_record]; split
    · rfl
    · exact hm

/-- R124 to R126: what the line of a frame that is gone may become: with retire set it is NONE, or ARMED where it catches; else it is
ARMED or CAUGHT. -/
theorem blockFits_gone {f : LineBlock → Fin 13 → LineBlock} {move : LineBlock → Fin 13 → Catch → Catch} (hf : MovesBy f move true)
    (hretired : ∀ b l k, b.retire l = true → (move b l k).state = if b.catches_ l then .armed else .none)
    (hkept : ∀ b l k, b.retire l = false → (move b l k).state ≠ .none)
    {b : LineBlock} (h : BlockFits b) {l : Fin 13} (hl : (b.catchOf l).state = .reporting) : BlockFits (f b l) := by
  refine ⟨fun i => ?_, ?_⟩
  · obtain ⟨h₁, h₂, h₃⟩ := h.1 i
    rw [hf.lines, hf.catchOf]
    by_cases hi : pinLine i = l
    · subst hi
      rw [if_pos rfl]
      refine ⟨by simp, fun hm => ?_, fun hm => .inl ?_⟩
      · cases hr : b.retire (pinLine i) with
        | true => rw [hretired _ _ _ hr]; simp_all
        | false => exact hkept _ _ _ hr
      · have hr : b.retire (pinLine i) = true := by
          rw [retire_pinLine]
          exact (h₃ hm).resolve_left (by simp [hl])
        rw [hretired _ _ _ hr]; simp_all
    · simpa [hi] using h.1 i
  · rw [hf.catchOf]
    split
    · next e => subst e; exact hkept _ _ _ rfl
    · exact h.2

theorem blockFits_departure {b : LineBlock} (h : BlockFits b) {l : Fin 13} (hl : (b.catchOf l).state = .reporting) :
    BlockFits (b.departure l) := by
  refine blockFits_gone movesBy_departure (fun b l k hr => ?_) (fun b l k hr => ?_) h hl
  · simp [departureMove, hr]
  · by_cases hn : k.n = 0#4 <;> simp [departureMove, hr, hn]

theorem blockFits_discard {b : LineBlock} (h : BlockFits b) {l : Fin 13} (hl : (b.catchOf l).state = .reporting) :
    BlockFits (b.discard l) := by
  refine blockFits_gone movesBy_discard (fun b l k hr => ?_) (fun b l k hr => ?_) h hl
  · simp [discardMove, hr]
  · simp [discardMove, hr]

/-- R133: the table of SET LINE keeps the fit of the line that it sets. -/
theorem catchFits_onSetLine {x : Line} {k : Catch} (h : CatchFits x k) {y : Line}
    (hretire : y.retire = (k.onSetLine x.mode y.mode x.retire).1) : CatchFits y (k.onSetLine x.mode y.mode x.retire).2 := by
  obtain ⟨h₁, h₂, h₃⟩ := h
  unfold CatchFits
  rw [hretire]
  unfold Catch.onSetLine
  cases hk : k.state with
  | none | armed | caught =>
    have hr : x.retire = false := by simpa [hk] using h₁
    by_cases hm : y.mode = .catching <;> simp [hm, hr, hk, Catch.empty]
  | reporting =>
    by_cases hm : y.mode = .catching
    · simp [hm, hk]
    · by_cases hr : x.retire = true
      · simp [hr, hk, hm]
      · have hx : x.mode = .catching := by
          by_contra hx
          exact (h₃ hx).elim (by simp [hk]) hr
        simp [hr, hx, hm]

theorem blockFits_configure {b : LineBlock} (h : BlockFits b) (l : Fin 12) (mode : LineMode) (edge : Edge) (hold : Digit) :
    BlockFits (b.configure l mode edge hold) := by
  refine ⟨fun i => ?_, ?_⟩
  · rw [lines_configure, catchOf_configure]
    by_cases hi : i = l
    · subst hi
      rw [if_pos rfl, if_pos rfl]
      exact catchFits_onSetLine (h.1 i) (y := ⟨mode, edge, hold, _, _, _, _⟩) rfl
    · rw [if_neg hi, if_neg fun e => hi (pinLine_injective e)]
      exact h.1 i
  · rw [catchOf_configure, if_neg fun e => pinLine_ne_pseudoLine l e.symm]
    exact h.2

theorem catchOf_reset (levels : Fin 12 → Bool) (l : Fin 13) :
    (LineBlock.reset levels).catchOf l = Catch.empty (if l = pseudoLine then .armed else .none) := tabulate_getElem _ _

theorem lines_reset (levels : Fin 12 → Bool) (i : Fin 12) : (LineBlock.reset levels).lines[i] = Line.reset (levels i) :=
  tabulate_getElem _ _

theorem blockFits_reset (levels : Fin 12 → Bool) : BlockFits (LineBlock.reset levels) := by
  refine ⟨fun i => ?_, ?_⟩
  · rw [lines_reset, catchOf_reset, if_neg (pinLine_ne_pseudoLine i)]
    simp [CatchFits, Line.reset, Catch.empty]
  · rw [catchOf_reset, if_pos rfl]
    simp [Catch.empty]

theorem oneRecord_reset (levels : Fin 12 → Bool) : OneRecord (LineBlock.reset levels) [] := by
  refine ⟨List.nodup_nil, fun l => ?_⟩
  rw [catchOf_reset]
  by_cases h : l = pseudoLine <;> simp [h, Catch.empty]

end Sys2Proof.Proofs

/-! ## The law of reports (R95, R127) -/

namespace Sys2Proof.Proofs

open Sys2Proof Sys2Proof.Machine

/-! ### The lines that queues name -/

theorem taggedLines_append (hs ks : List Held) : taggedLines (hs ++ ks) = taggedLines hs ++ taggedLines ks :=
  List.flatMap_append

theorem taggedLines_of_untagged {hs : List Held} (h : ∀ x ∈ hs, x.tag = .none) : taggedLines hs = [] := by
  refine List.flatMap_eq_nil_iff.mpr fun x hx => ?_
  simp only [h x hx]

@[simp] theorem taggedLines_report (ds : List Digit) (ls : List (Fin 13)) : taggedLines [⟨ds, .report ls⟩] = ls := by
  simp [taggedLines]

@[simp] theorem taggedLines_plain (ds : List Digit) : taggedLines [Held.plain ds] = [] := rfl

@[simp] theorem taggedLines_condition (ds : List Digit) (c : ConditionTag) : taggedLines [⟨ds, .condition c⟩] = [] := rfl

theorem headLines_append_drop (hs : List Held) : headLines hs ++ taggedLines (hs.drop 1) = taggedLines hs := by
  rw [headLines, ← taggedLines_append, List.take_append_drop]

theorem taggedLines_perm {hs ks : List Held} (h : hs.Perm ks) : (taggedLines hs).Perm (taggedLines ks) := h.flatMap_right _

theorem reportedLines_enter (s : State) {q : Target} (hq : q ≠ .spurReturn) (hs : List Held) :
    (s.enter q hs).reportedLines.Perm (taggedLines hs ++ s.reportedLines) := by
  cases q with
  | transit =>
    simp only [State.reportedLines, State.enter_transit, State.enter_merge_insertion, State.enter_transit_spur, taggedLines_append]
    rw [List.append_assoc, List.append_assoc, List.append_assoc]
    exact List.perm_append_comm_assoc _ _ _
  | spurOut =>
    simp only [State.reportedLines, State.enter_spurOut, State.enter_spurOut_merge, taggedLines_append]
    rw [← List.append_assoc]
    exact List.perm_append_comm
  | spurReturn => exact absurd rfl hq

theorem reportedLines_insert (s : State) (h : Held) :
    (s.insert h).reportedLines.Perm (taggedLines [h] ++ s.reportedLines) := by
  simp only [State.reportedLines, State.insert_merge_insertion, State.insert_merge_transit, State.insert_spur, taggedLines_append]
  rw [← List.append_assoc, ← List.append_assoc (taggedLines [h])]
  exact List.perm_append_comm.append_right _

/-! ### The law with what is owed -/

/-- R95: frames in the spur return queue carry no tag. -/
def ReturnUntagged (s : State) : Prop := ∀ h ∈ s.merge.spurReturn, h.tag = .none

/-- R127 in the middle of a step: the lines of frames that are gone, and whose line unit has not been told, are REPORTING too. -/
def ReportingOwing (a : Stage) : Prop := OneRecord a.1.line (a.1.reportedLines ++ a.2.lines) ∧ ReturnUntagged a.1

theorem reportingOwing_nothing (s : State) : ReportingOwing (s, .nothing) ↔ ReportingLaw s := by
  simp [ReportingOwing, Debt.nothing, ReportingLaw, OneRecord, ReturnUntagged, and_assoc]

/-- Moves of the line unit that leave what is REPORTING, and of queues that leave the tagged frames. -/
theorem ReportingOwing.of_same {s t : State} {d : Debt} (hs : ReportingOwing (s, d)) (hlines : t.reportedLines = s.reportedLines)
    (hstates : ∀ l, (t.line.catchOf l).state = .reporting ↔ (s.line.catchOf l).state = .reporting)
    (hreturn : t.merge.spurReturn = s.merge.spurReturn) : ReportingOwing (t, d) := by
  refine ⟨(OneRecord.of_states hs.1 hstates).perm ?_, fun h hh => hs.2 h (hreturn ▸ hh)⟩
  rw [show (t, d).1.reportedLines = s.reportedLines from hlines]

/-- R123: the frame that carries the records of CAUGHT lines enters a queue. -/
theorem ReportingOwing.record {s t : State} {d : Debt} (hs : ReportingOwing (s, d)) {ls : List (Fin 13)} (hnodup : ls.Nodup)
    (hcaught : ∀ l ∈ ls, (s.line.catchOf l).state = .caught) (hlines : t.reportedLines.Perm (ls ++ s.reportedLines))
    (hline : t.line.catches = (s.line.record ls).catches) (hreturn : t.merge.spurReturn = s.merge.spurReturn) :
    ReportingOwing (t, d) := by
  refine ⟨?_, fun h hh => hs.2 h (hreturn ▸ hh)⟩
  have hrecord := (oneRecord_record hs.1 hnodup hcaught).of_states (c := t.line) fun l => by
    rw [LineBlock.catchOf, LineBlock.catchOf, hline]
  refine hrecord.perm ?_
  rw [← List.append_assoc]
  exact hlines.symm.append_right _

/-- R95, R100: the lines of frames that leave their queues are owed to the line unit. -/
theorem ReportingOwing.gone {s t : State} {d : Debt} {ls : List (Fin 13)} (hs : ReportingOwing (s, d))
    (hlines : s.reportedLines.Perm (ls ++ t.reportedLines)) (hline : t.line = s.line)
    (hreturn : t.merge.spurReturn ⊆ s.merge.spurReturn) : ReportingOwing (t, { d with lines := ls ++ d.lines }) := by
  refine ⟨?_, fun h hh => hs.2 h (hreturn hh)⟩
  show OneRecord t.line (t.reportedLines ++ (ls ++ d.lines))
  rw [hline]
  refine OneRecord.perm hs.1 ?_
  show (s.reportedLines ++ d.lines).Perm _
  rw [← List.append_assoc]
  exact (hlines.trans List.perm_append_comm).append_right _

theorem eventLines_nodup (b : LineBlock) : b.eventLines.Nodup := (caughtLines_nodup b).sublist (List.take_sublist _ _)

theorem eventLines_caught {b : LineBlock} {l : Fin 13} (h : l ∈ b.eventLines) : (b.catchOf l).state = .caught :=
  (mem_caughtLines b l).mp (List.mem_of_mem_take h)

theorem reporting_work {a b : Stage} (h : Work a b) (hs : ReportingOwing a) : ReportingOwing b := by
  cases h with
  | receiver s d p r => cases p <;> exact hs
  | edge s d l =>
    refine ReportingOwing.of_same (s := s) hs rfl (fun m => ?_) rfl
    show ((s.line.edge l).catchOf m).state = .reporting ↔ _
    rw [movesBy_edge.catchOf]
    split
    · next e => subst e; exact reporting_edgeMove _ _ _
    · exact Iff.rfl
  | event s d =>
    refine ReportingOwing.record (s := s) hs (eventLines_nodup s.line) (fun l => eventLines_caught) ?_ ?_ ?_
    · have h := reportedLines_insert (s.setLines { s.line.record s.line.eventLines with eventSeq := s.line.eventSeq + 1#4 }) s.eventHeld
      rwa [show taggedLines [s.eventHeld] = s.line.eventLines from taggedLines_report _ _] at h
    · simp [State.buildEvent]
    · simp [State.buildEvent]
  | breakReport s d =>
    refine ReportingOwing.of_same (s := s) hs ?_ (fun m => by simp [State.buildBreak]) (by simp [State.buildBreak])
    simp [State.reportedLines, State.buildBreak, taggedLines_append, State.breakHeld]
  | enter s d q hs' _ hheld =>
    have htags : taggedLines hs' = [] := taggedLines_of_untagged fun x hx => (hheld x hx).1
    cases q with
    | spurReturn =>
      refine ⟨by simpa [State.reportedLines] using hs.1, fun h hh => ?_⟩
      simp only [State.enter_spurReturn, List.mem_append] at hh
      exact hh.elim (hs.2 h) fun hh => (hheld h hh).1
    | transit => exact ReportingOwing.of_same (s := s) hs (by simp [State.reportedLines, taggedLines_append, htags]) (by simp) (by simp)
    | spurOut => exact ReportingOwing.of_same (s := s) hs (by simp [State.reportedLines, taggedLines_append, htags]) (by simp) (by simp)
  | poll s d q ls ds _ _ hnodup hcaught _ hq =>
    refine ReportingOwing.record (s := s) hs hnodup hcaught ?_ (by simp) ?_
    · have h := reportedLines_enter (s.setLines (s.line.record ls)) hq [{ digits := ds, tag := .report ls }]
      rwa [taggedLines_report] at h
    · cases q with
      | spurReturn => exact absurd rfl hq
      | _ => simp
  | readReply s d ds =>
    refine ReportingOwing.of_same (s := s) hs ?_ (by simp) (by simp)
    simp [State.reportedLines, taggedLines_append]
  | reply s d => exact ReportingOwing.of_same (s := s) hs (by simp [State.reportedLines]) (by simp) (by simp)
  | _ => exact hs

theorem reportedLines_removeHead (s : State) (src : Source) (hreturn : ReturnUntagged s) :
    s.reportedLines.Perm (headLines (s.framesOf src) ++ (s.removeHead src).reportedLines) := by
  cases src with
  | transit =>
    show (taggedLines s.merge.transit ++ _ ++ _).Perm (headLines s.merge.transit ++ (taggedLines (s.merge.transit.drop 1) ++ _ ++ _))
    rw [← headLines_append_drop s.merge.transit]
    simp only [List.append_assoc]
    exact .refl _
  | insertion =>
    show (taggedLines _ ++ taggedLines s.merge.insertion ++ _).Perm
      (headLines s.merge.insertion ++ (taggedLines _ ++ taggedLines (s.merge.insertion.drop 1) ++ _))
    rw [← headLines_append_drop s.merge.insertion]
    simp only [List.append_assoc]
    exact List.perm_append_comm_assoc _ _ _
  | spurOut =>
    show (taggedLines _ ++ taggedLines _ ++ taggedLines s.spur.queue).Perm
      (headLines s.spur.queue ++ (taggedLines _ ++ taggedLines _ ++ taggedLines (s.spur.queue.drop 1)))
    rw [← headLines_append_drop s.spur.queue]
    exact List.perm_append_comm_assoc _ _ _
  | spurReturn =>
    have hnil : headLines s.merge.spurReturn = [] := taggedLines_of_untagged fun x hx => hreturn x (List.mem_of_mem_take hx)
    show s.reportedLines.Perm (headLines s.merge.spurReturn ++ s.reportedLines)
    rw [hnil]
    exact .refl _
  | reply =>
    have hnil : headLines (s.framesOf .reply) = [] := taggedLines_of_untagged fun x hx => by
      have hx := List.mem_of_mem_take hx
      unfold State.framesOf at hx
      cases hr : s.mgmt.reply <;> simp_all [Held.plain]
    show s.reportedLines.Perm (headLines (s.framesOf .reply) ++ s.reportedLines)
    rw [hnil]
    exact .refl _

theorem removeHead_return_subset (s : State) (src : Source) : (s.removeHead src).merge.spurReturn ⊆ s.merge.spurReturn := by
  cases src with
  | spurReturn => exact List.drop_subset _ _
  | _ => exact fun _ h => h

theorem removeHead_line (s : State) (src : Source) : (s.removeHead src).line = s.line := by cases src <;> rfl

/-- R40: a swap moves no frame and no line. -/
theorem swap_queues_lines (s : State) : s.swap.line = s.line ∧ s.swap.reportedLines = s.reportedLines ∧
    s.swap.merge.spurReturn = s.merge.spurReturn := by
  cases hc : s.mgmt.commit with
  | none => rw [swap_of_no_commit hc]; exact ⟨rfl, rfl, rfl⟩
  | some c => rw [swap_of_commit hc]; simp [State.reportedLines]

theorem reporting_move {a b : Stage} (h : Move a b) (hs : ReportingOwing a) : ReportingOwing b := by
  cases h with
  | change h =>
    cases h with
    | work h => exact reporting_work h hs
    | swap s d =>
      obtain ⟨hline, hreported, hreturn⟩ := swap_queues_lines s
      exact ReportingOwing.of_same (s := s) hs hreported (by simp [hline]) hreturn
    | _ => exact hs
  | sending h =>
    cases h with
    | work h => exact reporting_work h hs
    | readyDown s d u => exact ReportingOwing.of_same (s := s) hs (by simp [State.reportedLines]) (by simp) (by simp)
    | readySpur s d u => exact ReportingOwing.of_same (s := s) hs (by simp [State.reportedLines]) (by simp) (by simp)
    | departDown s d src n u =>
      exact ReportingOwing.gone (s := s) hs (reportedLines_removeHead s src hs.2) (removeHead_line s src)
        (removeHead_return_subset s src)
    | departSpur s d u =>
      exact ReportingOwing.gone (s := s) hs (reportedLines_removeHead s .spurOut hs.2) rfl fun _ h => h
    | told s l ls b => exact ⟨oneRecord_gone movesBy_departure departureMove_not_reporting (OneRecord.perm hs.1 List.perm_middle), hs.2⟩
    | _ => exact hs
  | configure s d l mode edge hold =>
    refine ReportingOwing.of_same (s := s) hs rfl (fun m => ?_) rfl
    show ((s.line.configure l mode edge hold).catchOf m).state = .reporting ↔ _
    rw [catchOf_configure]
    split
    · next e => subst e; exact reporting_onSetLine _ _ _ _
    · exact Iff.rfl
  | manager s d second => cases second <;> exact hs
  | enable s d watch =>
    simp only [State.enableSpur]
    split <;> exact hs
  | disable s d watch =>
    refine ReportingOwing.gone (s := s) hs ?_ rfl (List.nil_subset _)
    show (taggedLines _ ++ taggedLines _ ++ taggedLines s.spur.queue).Perm
      (taggedLines s.spur.queue ++ (taggedLines _ ++ taggedLines _ ++ taggedLines []))
    rw [show taggedLines [] = [] from rfl, List.append_nil]
    exact List.perm_append_comm
  | discarded s l ls b => exact ⟨oneRecord_gone movesBy_discard discardMove_not_reporting (OneRecord.perm hs.1 List.perm_middle), hs.2⟩
  | flush s d lost hlost =>
    refine ReportingOwing.gone (s := s) hs ?_ (by rw [trafficFlush_eq]) (by rw [trafficFlush_eq]; exact List.nil_subset _)
    have hnone : s.trafficFlush.reportedLines = [] := by rw [trafficFlush_eq]; rfl
    rw [hnone, List.append_nil]
    refine List.Perm.trans ?_ (taggedLines_perm hlost).symm
    simp [taggedLines_append, taggedLines_of_untagged hs.2, State.reportedLines]
  | fullReset s d => exact ⟨oneRecord_reset _, fun h hh => by cases hh⟩
  | release s d tx =>
    exact ReportingOwing.of_same (s := s) hs (by simp [State.reportedLines, State.releaseTx])
      (by simp [State.releaseTx]) (by simp [State.releaseTx])
  | _ => exact hs

theorem reportingLaw_powerOn (rate : BitVec 2) (adr : Addr) (pins : BitVec 12) : ReportingLaw (State.powerOn rate adr pins) :=
  (reportingOwing_nothing _).mp ⟨oneRecord_reset _, fun _ h => by cases h⟩

theorem law_reporting : Law ReportingOwing :=
  ⟨fun rate adr pins => (reportingOwing_nothing _).mpr (reportingLaw_powerOn rate adr pins), reporting_move⟩

/-! ### Catch states under the law of reports -/

theorem catchLaw_work {a b : Stage} (h : Work a b) (hs : CatchLaw a.1) : CatchLaw b.1 := by
  rw [catchLaw_iff] at hs ⊢
  cases h with
  | receiver s d p r => cases p <;> exact hs
  | edge s d l => exact blockFits_edge hs l
  | sample s d lines h => exact BlockFits.of_states hs h (fun _ => Iff.rfl) fun _ h => h
  | event s d =>
    have h := blockFits_record (b := s.line) hs fun l => eventLines_caught
    simpa [State.buildEvent, BlockFits, LineBlock.catchOf] using h
  | poll s d q ls ds _ _ _ hcaught =>
    have h := blockFits_record (b := s.line) hs hcaught
    simpa using h
  | breakReport | enter | readReply | reply => simpa [State.buildBreak] using hs
  | _ => exact hs

theorem catchLaw_move {a b : Stage} (h : Move a b) (hr : ReportingOwing a) (hs : CatchLaw a.1) : CatchLaw b.1 := by
  rw [catchLaw_iff] at hs ⊢
  cases h with
  | change h =>
    cases h with
    | work h => exact catchLaw_work h hs
    | swap s d => rw [(swap_queues_lines s).1]; exact hs
    | _ => exact hs
  | sending h =>
    cases h with
    | work h => exact catchLaw_work h hs
    | readyDown | readySpur => simpa using hs
    | departDown s d src n u => show BlockFits (s.removeHead src).line; rw [removeHead_line]; exact hs
    | told s l ls b => exact blockFits_departure hs ((hr.1.2 l).mpr (by simp))
    | _ => exact hs
  | configure s d l mode edge hold => exact blockFits_configure hs l mode edge hold
  | enable s d watch =>
    simp only [State.enableSpur]
    split <;> exact hs
  | discarded s l ls b => exact blockFits_discard hs ((hr.1.2 l).mpr (by simp))
  | flush s d lost => rw [trafficFlush_eq]; exact hs
  | fullReset s d => exact blockFits_reset _
  | release s d => simpa [State.releaseTx] using hs
  | _ => exact hs

theorem catchLaw_powerOn (rate : BitVec 2) (adr : Addr) (pins : BitVec 12) : CatchLaw (State.powerOn rate adr pins) :=
  (catchLaw_iff _).mpr (blockFits_reset _)

theorem law_catch : Law fun a => ReportingOwing a ∧ CatchLaw a.1 :=
  ⟨fun rate adr pins => ⟨law_reporting.powerOn rate adr pins, catchLaw_powerOn rate adr pins⟩,
    fun h hs => ⟨reporting_move h hs.1, catchLaw_move h hs.1 hs.2⟩⟩

/-- Settles O55: every move keeps the lines of the held frames, with those that the line unit is still to be told of, in step with the
lines that are REPORTING. -/
theorem reportingLinesHaveOneRecord : Obligations.ReportingLinesHaveOneRecord := by
  intro s t ht hs
  have hs' := (reportingOwing_nothing s).mpr hs
  exact ⟨(reportingOwing_nothing t).mp (law_reporting.step ht hs'), fun hc => (law_catch.step ht ⟨hs', hc⟩).2⟩

end Sys2Proof.Proofs

/-! ## The spur and the transmitters (R12, R96, R99, R103, R104, R109) -/

namespace Sys2Proof.Proofs

open Sys2Proof Sys2Proof.Machine

theorem abort_not_send (tx : Tx) (src : Source) (n : Nat) : tx.abort ≠ .send src n := by
  cases tx <;> simp [Tx.abort]

theorem abandon_reset : Receiver.reset.abandon = Receiver.reset := rfl

/-! ### A DISABLED spur -/

/-- What only takes frames from the spur's stores, and leaves its state and its receiver, keeps a DISABLED spur empty. -/
theorem SpurLaw.of_subset {s t : State} (hs : SpurLaw s) (hstate : t.spur.state = s.spur.state)
    (hqueue : t.spur.queue ⊆ s.spur.queue) (hreturn : t.merge.spurReturn ⊆ s.merge.spurReturn)
    (htx : ∀ src n, t.spur.tx = .send src n → ∃ src m, s.spur.tx = .send src m) (hrx : t.spurRx = s.spurRx) : SpurLaw t := by
  intro hd
  obtain ⟨hq, hr, hsend, hreset⟩ := hs (hstate ▸ hd)
  refine ⟨List.subset_nil.mp (hq ▸ hqueue), List.subset_nil.mp (hr ▸ hreturn), fun src n h => ?_, hrx.trans hreset⟩
  obtain ⟨src', m, h'⟩ := htx src n h
  exact hsend src' m h'

theorem spurLaw_of_enabled {s : State} (h : s.spur.state ≠ .disabled) : SpurLaw s := fun hd => absurd hd h

theorem spurLaw_work {a b : Stage} (h : Work a b) (hs : SpurLaw a.1) : SpurLaw b.1 := by
  cases h with
  | receiver s d p r _ hp =>
    cases p with
    | upstream => exact hs
    | spur => exact spurLaw_of_enabled (hp rfl)
  | enter s d q hs' _ _ hspur =>
    cases q with
    | transit => exact SpurLaw.of_subset hs (by simp) (by simp) (by simp) (fun src n h => ⟨src, n, by simpa using h⟩) (by simp)
    | _ => exact spurLaw_of_enabled (by simpa using hspur (by simp))
  | poll s d q ls ds _ _ _ _ _ _ hspur =>
    cases q with
    | transit => exact SpurLaw.of_subset hs (by simp) (by simp) (by simp) (fun src n h => ⟨src, n, by simpa using h⟩) (by simp)
    | _ => exact spurLaw_of_enabled (by simpa using hspur (by simp))
  | event s d | breakReport s d | readReply s d | reply s d =>
    exact SpurLaw.of_subset (s := s) hs (by simp [State.buildEvent, State.buildBreak]) (by simp [State.buildEvent, State.buildBreak])
      (by simp [State.buildEvent, State.buildBreak])
      (fun src n h => ⟨src, n, by simpa [State.buildEvent, State.buildBreak] using h⟩)
      (by simp [State.buildEvent, State.buildBreak])
  | _ => exact hs

theorem grantSpur_of_disabled {s : State} (h : s.spur.state = .disabled) : s.grantSpur = s := by
  simp [State.grantSpur, h]

theorem spurLaw_grantSpur {s : State} (h : SpurLaw s) : SpurLaw s.grantSpur := by
  by_cases hd : s.spur.state = .disabled
  · rwa [grantSpur_of_disabled hd]
  · exact spurLaw_of_enabled (by simpa using hd)

theorem removeHead_spur_state (s : State) (src : Source) : (s.removeHead src).spur.state = s.spur.state := by cases src <;> rfl
theorem removeHead_spur_tx (s : State) (src : Source) : (s.removeHead src).spur.tx = s.spur.tx := by cases src <;> rfl
theorem removeHead_spurRx (s : State) (src : Source) : (s.removeHead src).spurRx = s.spurRx := by cases src <;> rfl

theorem removeHead_queue_subset (s : State) (src : Source) : (s.removeHead src).spur.queue ⊆ s.spur.queue := by
  cases src with
  | spurOut => exact List.drop_subset _ _
  | _ => exact fun _ h => h

theorem swap_spur (s : State) : s.swap.spur = s.spur ∧ s.swap.spurRx = s.spurRx ∧ s.swap.merge.spurReturn = s.merge.spurReturn := by
  cases hc : s.mgmt.commit with
  | none => rw [swap_of_no_commit hc]; exact ⟨rfl, rfl, rfl⟩
  | some c => rw [swap_of_commit hc]; simp

theorem spurLaw_move {a b : Stage} (h : Move a b) (hs : SpurLaw a.1) : SpurLaw b.1 := by
  cases h with
  | change h =>
    cases h with
    | work h => exact spurLaw_work h hs
    | spur s d x w _ hx => exact spurLaw_of_enabled hx
    | swap s d =>
      obtain ⟨hspur, hrx, hreturn⟩ := swap_spur s
      exact SpurLaw.of_subset (s := s) hs (by rw [hspur]) (by rw [hspur]; exact fun _ h => h) (by rw [hreturn]; exact fun _ h => h)
        (fun src n h => ⟨src, n, hspur ▸ h⟩) hrx
    | _ => exact hs
  | sending h =>
    cases h with
    | work h => exact spurLaw_work h hs
    | out s d tx u h =>
      refine SpurLaw.of_subset (s := s) hs rfl (fun _ h => h) (fun _ h => h) (fun src n htx => ?_) rfl
      rcases h with h | ⟨m, h⟩ | ⟨src', m, n', h, -⟩
      · exact ⟨src, n, h ▸ htx⟩
      · exact absurd (h.symm.trans htx) (by simp)
      · exact ⟨src', m, h⟩
    | readyDown s d u =>
      exact SpurLaw.of_subset (s := s) hs (by simp) (by simp) (by simp) (fun src n h => ⟨src, n, by simpa using h⟩) (by simp)
    | readySpur s d u =>
      exact spurLaw_grantSpur (SpurLaw.of_subset hs rfl (fun _ h => h) (fun _ h => h) (fun _ _ h => (by cases h)) rfl)
    | departDown s d src n u =>
      exact SpurLaw.of_subset (s := s) hs (removeHead_spur_state s src) (removeHead_queue_subset s src)
        (removeHead_return_subset s src) (fun x n h => ⟨x, n, (removeHead_spur_tx s src).symm.trans h⟩) (removeHead_spurRx s src)
    | departSpur s d u =>
      exact SpurLaw.of_subset (s := s) hs rfl (List.drop_subset _ _) (fun _ h => h) (fun _ _ h => (by cases h)) rfl
    | reset s d => exact SpurLaw.of_subset (s := s) hs rfl (fun _ h => h) (fun _ h => h) (fun _ _ h => (by cases h)) rfl
    | _ => exact hs
  | enable s d watch =>
    simp only [State.enableSpur]
    split
    · exact spurLaw_of_enabled (by simp)
    · exact hs
  | disable s d watch => exact fun _ => ⟨rfl, rfl, abort_not_send _, rfl⟩
  | flush s d lost =>
    rw [trafficFlush_eq]
    exact fun hd => ⟨rfl, rfl, abort_not_send _, (congrArg Receiver.abandon (hs hd).2.2.2).trans abandon_reset⟩
  | fullReset s d => exact fun _ => ⟨rfl, rfl, abort_not_send _, rfl⟩
  | release s d tx =>
    exact SpurLaw.of_subset (s := s) hs (by simp [State.releaseTx]) (by simp [State.releaseTx]) (by simp [State.releaseTx])
      (fun src n h => ⟨src, n, by simpa [State.releaseTx] using h⟩) (by simp [State.releaseTx])
  | _ => exact hs

theorem spurLaw_powerOn (rate : BitVec 2) (adr : Addr) (pins : BitVec 12) : SpurLaw (State.powerOn rate adr pins) :=
  fun _ => ⟨rfl, rfl, fun _ _ h => (by cases h), rfl⟩

theorem law_spur : Law fun a => SpurLaw a.1 := ⟨spurLaw_powerOn, spurLaw_move⟩

/-! ### The downstream transmitter -/

/-- R99: a downstream transmitter in SEND has a frame. -/
def DownSends (s : State) : Prop := ∀ src n, s.merge.tx = .send src n → s.framesOf src ≠ [] ∧ src ≠ .spurOut

/-- R96, R99: the downstream half of the law of transmitters. -/
def DownLaw (s : State) : Prop :=
  (s.merge.tx = .ready →
    s.merge.transit = [] ∧ s.merge.spurReturn = [] ∧ s.merge.insertion = [] ∧ ∀ ds, s.mgmt.reply ≠ .full ds) ∧ DownSends s

/-- R104: a spur transmitter in SEND has a frame. -/
def OutSends (s : State) : Prop := ∀ src n, s.spur.tx = .send src n → s.spur.queue ≠ []

/-- R104: the spur half of the law of transmitters. -/
def OutLaw (s : State) : Prop := (s.spur.tx = .ready → s.spur.state ≠ .disabled → s.spur.queue = []) ∧ OutSends s

theorem transmitLaw_iff (s : State) : TransmitLaw s ↔ DownLaw s ∧ OutLaw s := by
  simp only [TransmitLaw, DownLaw, DownSends, OutLaw, OutSends]
  tauto

theorem cycleWinner_nonempty {s : State} {i : Fin 4} (h : s.cycleWinner = some i) : s.framesOf (cycleSource i) ≠ [] := by
  simpa [List.isEmpty_iff] using List.find?_some h

theorem queues_of_no_winner {s : State} (h : s.cycleWinner = none) :
    s.merge.transit = [] ∧ s.merge.spurReturn = [] ∧ s.merge.insertion = [] := by
  have hempty : ∀ i : Fin 4, s.framesOf (cycleSource i) = [] := by
    intro i
    have h' := List.find?_eq_none.mp h i (by generalize s.merge.pointer = p; revert i p; decide)
    simpa [List.isEmpty_iff] using h'
  exact ⟨hempty 0, hempty 1, hempty 3⟩

theorem cycleSource_ne_spurOut (i : Fin 4) : cycleSource i ≠ .spurOut := by revert i; decide

/-- R96 to R99: after the check for a grant a READY transmitter has nothing to send, and one in SEND has its frame. -/
theorem downLaw_grantDown {s : State} (h : DownSends s) : DownLaw s.grantDown := by
  by_cases htx : s.merge.tx = .ready
  · by_cases hr : ∃ ds, s.mgmt.reply = .full ds
    · obtain ⟨ds, hds⟩ := hr
      rw [State.grantDown_reply htx hds]
      exact ⟨fun h => (by cases h), fun src n h => by cases h; exact ⟨by simp [State.framesOf], by simp⟩⟩
    · have hr' : ∀ ds, s.mgmt.reply ≠ .full ds := fun ds h => hr ⟨ds, h⟩
      cases hw : s.cycleWinner with
      | none =>
        obtain ⟨htransit, hreturn, hinsertion⟩ := queues_of_no_winner hw
        rw [State.grantDown_none hr' hw]
        exact ⟨fun _ => ⟨htransit, hreturn, hinsertion, hr'⟩, h⟩
      | some i =>
        rw [State.grantDown_queue htx hr' hw]
        refine ⟨fun h => (by cases h), fun src n h => ?_⟩
        cases h
        have hne := cycleWinner_nonempty hw
        exact ⟨fun he => hne (by rw [← he]; generalize cycleSource i = x; cases x <;> rfl), cycleSource_ne_spurOut i⟩
  · rw [State.grantDown_of_not_ready htx]
    exact ⟨fun h => absurd h htx, h⟩

theorem downSends_append {s : State} (h : DownSends s) {t : State} (htx : t.merge.tx = s.merge.tx)
    (hframes : ∀ src, src ≠ .spurOut → s.framesOf src ≠ [] → t.framesOf src ≠ []) : DownSends t := by
  intro src n hsend
  obtain ⟨hne, hsrc⟩ := h src n (htx ▸ hsend)
  exact ⟨hframes src hsrc hne, hsrc⟩

theorem downLaw_enter {s : State} (h : DownLaw s) (q : Target) (hs : List Held) : DownLaw (s.enter q hs) := by
  cases q with
  | transit =>
    refine downLaw_grantDown (downSends_append h.2 rfl fun src _ hne => ?_)
    cases src with
    | transit => exact List.append_ne_nil_of_left_ne_nil hne hs
    | _ => exact hne
  | spurReturn =>
    refine downLaw_grantDown (downSends_append h.2 rfl fun src _ hne => ?_)
    cases src with
    | spurReturn => exact List.append_ne_nil_of_left_ne_nil hne hs
    | _ => exact hne
  | spurOut =>
    refine ⟨by simpa [State.enter] using h.1, downSends_append h.2 (by simp) fun src hsrc hne => ?_⟩
    rwa [framesOf_enter, if_neg (show src ≠ Target.store .spurOut from hsrc)]

theorem downLaw_insert {s : State} (h : DownLaw s) (x : Held) : DownLaw (s.insert x) := by
  refine downLaw_grantDown (downSends_append h.2 rfl fun src _ hne => ?_)
  cases src with
  | insertion => exact List.append_ne_nil_of_left_ne_nil hne [x]
  | _ => exact hne

theorem downLaw_fillReply {s : State} (h : DownSends s) (ds : List Digit) : DownLaw (s.fillReply ds) := by
  refine downLaw_grantDown (downSends_append h rfl fun src _ hne => ?_)
  cases src with
  | reply => simp [State.framesOf]
  | _ => exact hne

theorem downLaw_swap {s : State} (h : DownLaw s) : DownLaw s.swap := by
  cases hc : s.mgmt.commit with
  | none => rwa [swap_of_no_commit hc]
  | some c =>
    rw [swap_of_commit hc]
    refine downLaw_fillReply ?_ _
    exact h.2

theorem downLaw_work {a b : Stage} (h : Work a b) (hs : DownLaw a.1) : DownLaw b.1 := by
  cases h with
  | receiver s d p r => cases p <;> exact hs
  | event s d =>
    exact downLaw_insert (s := s.setLines { s.line.record s.line.eventLines with eventSeq := s.line.eventSeq + 1#4 }) hs _
  | breakReport s d =>
    exact downLaw_insert (s := s.setSup { s.sup with lastUp := s.sup.up, lastSpur := s.spur.state }) hs _
  | enter s d q hs' => exact downLaw_enter hs _ _
  | poll s d q ls => exact downLaw_enter (s := s.setLines (s.line.record ls)) hs _ _
  | readReply s d => exact downLaw_insert hs _
  | reply s d => exact downLaw_fillReply hs.2 _
  | _ => exact hs

theorem downLaw_of_fill {s : State} (h : ∃ n, s.merge.tx = .fill n) : DownLaw s := by
  obtain ⟨n, hn⟩ := h
  exact ⟨fun h => absurd (hn.symm.trans h) (by simp), fun src k h => absurd (hn.symm.trans h) (by simp)⟩

theorem downLaw_move {a b : Stage} (h : Move a b) (hs : DownLaw a.1) : DownLaw b.1 := by
  cases h with
  | change h =>
    cases h with
    | work h => exact downLaw_work h hs
    | swap s d => exact downLaw_swap hs
    | _ => exact hs
  | sending h =>
    cases h with
    | work h => exact downLaw_work h hs
    | down s d tx u h =>
      rcases h with rfl | ⟨m, rfl⟩ | ⟨src, m, n, hsend, rfl⟩
      · exact hs
      · exact downLaw_of_fill ⟨m, rfl⟩
      · refine ⟨fun h => (by cases h), fun x k h => ?_⟩
        cases h
        obtain ⟨hne, hsrc⟩ := hs.2 src m hsend
        exact ⟨fun he => hne (by rw [← he]; cases src <;> rfl), hsrc⟩
    | readyDown s d u => exact downLaw_grantDown fun _ _ h => (by cases h)
    | readySpur s d u =>
      refine ⟨by simpa using hs.1, downSends_append hs.2 (by simp) fun src _ hne => ?_⟩
      rw [framesOf_grantSpur]
      cases src <;> exact hne
    | departDown s d src n u => exact downLaw_of_fill ⟨0, rfl⟩
    | departSpur s d u =>
      refine ⟨hs.1, downSends_append (s := s) hs.2 rfl fun src hsrc hne => ?_⟩
      cases src with
      | spurOut => exact absurd rfl hsrc
      | _ => exact hne
    | reset s d => exact downLaw_of_fill ⟨0, rfl⟩
    | _ => exact hs
  | manager s d second => cases second <;> exact hs
  | reserve s d src seq _ hfree =>
    refine ⟨fun h => ?_, downSends_append (s := s) hs.2 rfl fun x _ hne => ?_⟩
    · obtain ⟨h₁, h₂, h₃, -⟩ := hs.1 h
      exact ⟨h₁, h₂, h₃, fun ds h => by cases h⟩
    · cases x with
      | reply => exact absurd (by simp [State.framesOf, hfree]) hne
      | _ => exact hne
  | enable s d watch =>
    simp only [State.enableSpur]
    split <;> exact hs
  | disable s d watch =>
    cases htx : s.merge.tx with
    | fill n => exact downLaw_of_fill ⟨n, by simp [spurOff, htx, Tx.abortFrom]⟩
    | ready =>
      obtain ⟨h₁, -, h₃, h₄⟩ := hs.1 htx
      exact ⟨fun _ => ⟨h₁, rfl, h₃, h₄⟩, fun src n h => by simp [spurOff, htx, Tx.abortFrom] at h⟩
    | send x k =>
      by_cases hx : x = .spurReturn
      · exact downLaw_of_fill ⟨0, by simp [spurOff, htx, Tx.abortFrom, hx]⟩
      · refine ⟨fun h => by simp [spurOff, htx, Tx.abortFrom, hx] at h, ?_⟩
        intro src n hsend
        have hsend : x = src ∧ k = n := by simpa [spurOff, htx, Tx.abortFrom, hx] using hsend
        obtain ⟨rfl, rfl⟩ := hsend
        obtain ⟨hne, hout⟩ := hs.2 x k htx
        refine ⟨?_, hout⟩
        cases x with
        | spurReturn => exact absurd rfl hx
        | spurOut => exact absurd rfl hout
        | _ => exact hne
  | flush s d lost => exact downLaw_of_fill ⟨0, by rw [trafficFlush_eq]⟩
  | fullReset s d => exact downLaw_of_fill ⟨0, rfl⟩
  | release s d tx => exact downLaw_fillReply (fun src n h => absurd h (abort_not_send tx src n)) _
  | _ => exact hs

/-! ### The spur transmitter -/

theorem outLaw_grantSpur {s : State} (h : OutSends s) : OutLaw s.grantSpur := by
  unfold State.grantSpur
  split
  · next hg =>
    have hne : s.spur.queue ≠ [] := by simp_all
    exact ⟨fun h => (by cases h), fun _ _ _ => hne⟩
  · next hg =>
    refine ⟨fun htx hd => ?_, h⟩
    by_contra hne
    exact hg (by simp [htx, hd, hne])

theorem outLaw_of_spur {s t : State} (h : OutLaw s) (hspur : t.spur = s.spur) : OutLaw t := by
  unfold OutLaw OutSends
  rw [hspur]
  exact h

theorem outLaw_enter {s : State} (h : OutLaw s) (q : Target) (hs : List Held) : OutLaw (s.enter q hs) := by
  cases q with
  | spurOut => exact outLaw_grantSpur fun src n hsend => List.append_ne_nil_of_left_ne_nil (h.2 src n hsend) hs
  | _ => exact outLaw_of_spur h (by simp)

theorem outLaw_work {a b : Stage} (h : Work a b) (hs : OutLaw a.1) : OutLaw b.1 := by
  cases h with
  | receiver s d p r => cases p <;> exact hs
  | enter s d q hs' => exact outLaw_enter hs _ _
  | poll s d q ls => exact outLaw_enter (s := s.setLines (s.line.record ls)) hs _ _
  | event s d | breakReport s d | readReply s d | reply s d =>
    exact outLaw_of_spur (s := s) hs (by simp [State.buildEvent, State.buildBreak])
  | _ => exact hs

theorem outLaw_of_empty {s : State} (hq : s.spur.queue = []) (htx : ∀ src n, s.spur.tx ≠ .send src n) : OutLaw s :=
  ⟨fun _ _ => hq, fun src n h => absurd h (htx src n)⟩

theorem outLaw_move {a b : Stage} (h : Move a b) (hspur : SpurLaw a.1) (hdown : DownLaw a.1) (hs : OutLaw a.1) : OutLaw b.1 := by
  cases h with
  | change h =>
    cases h with
    | work h => exact outLaw_work h hs
    | swap s d => exact outLaw_of_spur (s := s) hs (swap_spur s).1
    | spur s d x w hstate => exact ⟨fun htx _ => hs.1 htx hstate, hs.2⟩
    | _ => exact hs
  | sending h =>
    cases h with
    | work h => exact outLaw_work h hs
    | out s d tx u h =>
      rcases h with rfl | ⟨m, rfl⟩ | ⟨src, m, n, hsend, rfl⟩
      · exact hs
      · exact ⟨fun h => (by cases h), fun _ _ h => (by cases h)⟩
      · exact ⟨fun h => (by cases h), fun _ _ _ => hs.2 src m hsend⟩
    | readyDown s d u => exact outLaw_of_spur (s := s) hs (by simp)
    | readySpur s d u => exact outLaw_grantSpur fun _ _ h => (by cases h)
    | departDown s d src n u htx =>
      refine outLaw_of_spur (s := s) hs ?_
      cases src with
      | spurOut => exact absurd rfl (hdown.2 .spurOut n htx).2
      | _ => rfl
    | departSpur s d u => exact ⟨fun h => (by cases h), fun _ _ h => (by cases h)⟩
    | reset s d => exact ⟨fun h => (by cases h), fun _ _ h => (by cases h)⟩
    | _ => exact hs
  | enable s d watch =>
    simp only [State.enableSpur]
    split
    · next hd =>
      obtain ⟨hq, -, htx, -⟩ := hspur hd
      exact outLaw_of_empty hq htx
    · exact hs
  | disable s d watch => exact outLaw_of_empty rfl (abort_not_send _)
  | flush s d lost => rw [trafficFlush_eq]; exact outLaw_of_empty rfl (abort_not_send _)
  | fullReset s d => exact outLaw_of_empty rfl (abort_not_send _)
  | release s d tx => exact outLaw_of_spur (s := s) hs (by simp [State.releaseTx])
  | _ => exact hs

theorem transmitLaw_powerOn (rate : BitVec 2) (adr : Addr) (pins : BitVec 12) : TransmitLaw (State.powerOn rate adr pins) :=
  (transmitLaw_iff _).mpr ⟨downLaw_of_fill ⟨0, rfl⟩, outLaw_of_empty rfl fun _ _ h => (by cases h)⟩

theorem law_transmit : Law fun a => SpurLaw a.1 ∧ DownLaw a.1 ∧ OutLaw a.1 :=
  ⟨fun rate adr pins => ⟨spurLaw_powerOn rate adr pins, (transmitLaw_iff _).mp (transmitLaw_powerOn rate adr pins)⟩,
    fun h ⟨hspur, hdown, hout⟩ => ⟨spurLaw_move h hspur, downLaw_move h hdown, outLaw_move h hspur hdown hout⟩⟩

/-- Settles O56: every check for a grant leaves a READY transmitter with nothing to send, and only the enable of a spur, which the
first law has empty, lets a spur transmitter find its queue's state changed. -/
theorem transmittersHoldWhatTheySend : Obligations.TransmittersHoldWhatTheySend := fun s t ht hs =>
  ⟨law_spur.step ht hs, fun htransmit =>
    (transmitLaw_iff t).mpr (law_transmit.step ht ⟨hs, (transmitLaw_iff s).mp htransmit⟩).2⟩

end Sys2Proof.Proofs

/-! ## Addresses and the unaddressed mode (R62, R112, R113, R136, R137, R153, R159) -/

namespace Sys2Proof.Proofs

open Sys2Proof Sys2Proof.Machine

/-! ### Legal addresses -/

/-- The law of addresses reads the own address, the manager list and the report address. -/
theorem AddressesLaw.of_same {s t : State} (hs : AddressesLaw s) (hadr : t.adr = s.adr) (h0 : t.mgmt.manager0 = s.mgmt.manager0)
    (h1 : t.mgmt.manager1 = s.mgmt.manager1) (hreport : t.line.reportAddr = s.line.reportAddr) : AddressesLaw t := by
  unfold AddressesLaw
  rw [hadr, h0, h1, hreport]
  exact hs

theorem addressesLaw_work {a b : Stage} (h : Work a b) (hs : AddressesLaw a.1) : AddressesLaw b.1 := by
  cases h with
  | receiver s d p r => cases p <;> exact hs
  | event s d | breakReport s d | readReply s d | reply s d =>
    exact AddressesLaw.of_same (s := s) hs (by simp [State.buildEvent, State.buildBreak]) (by simp [State.buildEvent, State.buildBreak])
      (by simp [State.buildEvent, State.buildBreak]) (by simp [State.buildEvent, State.buildBreak])
  | enter s d | poll s d => exact AddressesLaw.of_same (s := s) hs (by simp) (by simp) (by simp) (by simp)
  | _ => exact hs

theorem departure_reportAddr (b : LineBlock) (l : Fin 13) : (b.departure l).reportAddr = b.reportAddr := by
  rw [movesBy_departure.rest]

theorem discard_reportAddr (b : LineBlock) (l : Fin 13) : (b.discard l).reportAddr = b.reportAddr := by
  rw [movesBy_discard.rest]

theorem addressesLaw_move {a b : Stage} (h : Move a b) (hs : AddressesLaw a.1) : AddressesLaw b.1 := by
  obtain ⟨hb0, hb1, hown0, hown1, hreport⟩ := id hs
  cases h with
  | change h =>
    cases h with
    | work h => exact addressesLaw_work h hs
    | swap s d =>
      cases hc : s.mgmt.commit with
      | none => simpa only [swap_of_no_commit hc] using hs
      | some c =>
        rw [swap_of_commit hc]
        exact AddressesLaw.of_same (s := s) hs (by simp) (by simp) (by simp) (by simp)
    | _ => exact hs
  | sending h =>
    cases h with
    | work h => exact addressesLaw_work h hs
    | readyDown s d | readySpur s d => exact AddressesLaw.of_same (s := s) hs (by simp) (by simp) (by simp) (by simp)
    | departDown s d src => cases src <;> exact hs
    | told s l => exact AddressesLaw.of_same (s := s) hs rfl rfl rfl (departure_reportAddr _ _)
    | _ => exact hs
  | reporting s d mode a code _ ha => exact ⟨hb0, hb1, hown0, hown1, ha⟩
  | manager s d second a _ ha =>
    cases second with
    | false => exact ⟨ha.2, hb1, ha.1, hown1, hreport⟩
    | true => exact ⟨hb0, ha.2, hown0, ha.1, hreport⟩
  | enable s d watch =>
    simp only [State.enableSpur]
    split <;> exact hs
  | discarded s l => exact AddressesLaw.of_same (s := s) hs rfl rfl rfl (discard_reportAddr _ _)
  | flush s d lost => rw [trafficFlush_eq]; exact hs
  | fullReset s d => exact ⟨nofun, nofun, nofun, nofun, (by decide : (0x00#7 : Addr) ≠ 0x7F#7)⟩
  | release s d =>
    exact AddressesLaw.of_same (s := s) hs (by simp [State.releaseTx]) (by simp [State.releaseTx]) (by simp [State.releaseTx])
      (by simp [State.releaseTx])
  | _ => exact hs

theorem addressesLaw_powerOn (rate : BitVec 2) (adr : Addr) (pins : BitVec 12) : AddressesLaw (State.powerOn rate adr pins) :=
  ⟨nofun, nofun, nofun, nofun, (by decide : (0x00#7 : Addr) ≠ 0x7F#7)⟩

theorem law_addresses : Law fun a => AddressesLaw a.1 := ⟨addressesLaw_powerOn, addressesLaw_move⟩

/-! ### The unaddressed part -/

/-- R136 in unaddressed mode. -/
def LinesKept (b : LineBlock) : Prop :=
  b.reportMode = .poll ∧ b.latches = tabulate (fun _ => 0#4) ∧
  (∀ l : Fin 12, (b.lines[l]).mode = .input ∧ (b.lines[l]).retire = false) ∧
  ∀ l : Fin 13, b.catchOf l = Catch.empty (if l = 12 then .armed else .none)

/-- R112, R159: an unaddressed part holds frames in the transit queue alone, and they bear no tag. -/
def QueuesKept (m : Merge) : Prop :=
  m.spurReturn = [] ∧ m.insertion = [] ∧ (∀ h ∈ m.transit, h.tag = .none) ∧ ∀ n, m.tx ≠ .send .reply n

/-- R170 in unaddressed mode. -/
def SettingsKept (x : Supervision) : Prop := x.policy = .forward ∧ x.gap = 0#4 ∧ x.silenceTime = 4#4

/-- What an unaddressed part keeps of its power-on values. -/
structure Kept (s : State) : Prop where
  map : s.map = .reset
  run : s.run = .closed
  mgmt : s.mgmt = .reset
  spur : s.spur.state = .disabled ∧ s.spur.queue = []
  merge : QueuesKept s.merge
  line : LinesKept s.line
  sup : SettingsKept s.sup

theorem unaddressedLaw_iff (s : State) : UnaddressedLaw s ↔ (s.adr = Config.broadcast → Kept s) := by
  refine imp_congr_right fun _ => ⟨?_, ?_⟩
  · rintro ⟨hmap, hrun, hstate, hmgmt, hreturn, hinsertion, hqueue, hpolicy, hgap, htime, hmode, hlatches, hlines, hcatches, htags, htx⟩
    exact ⟨hmap, hrun, hmgmt, ⟨hstate, hqueue⟩, ⟨hreturn, hinsertion, htags, htx⟩, ⟨hmode, hlatches, hlines, hcatches⟩,
      hpolicy, hgap, htime⟩
  · rintro ⟨hmap, hrun, hmgmt, ⟨hstate, hqueue⟩, ⟨hreturn, hinsertion, htags, htx⟩, ⟨hmode, hlatches, hlines, hcatches⟩,
      hpolicy, hgap, htime⟩
    exact ⟨hmap, hrun, hstate, hmgmt, hreturn, hinsertion, hqueue, hpolicy, hgap, htime, hmode, hlatches, hlines, hcatches, htags, htx⟩

/-- The law of the unaddressed mode in the middle of a step: no line is owed to the line unit. -/
def UnaddressedOwing (a : Stage) : Prop := a.1.adr = Config.broadcast → Kept a.1 ∧ a.2.lines = []

theorem not_addressed {s : State} (h : s.adr = Config.broadcast) : s.addressed = false := by simp [State.addressed, h]

theorem unaddressedOwing_of_addressed {a : Stage} (haddr : a.1.addressed = true) : UnaddressedOwing a := by
  intro h
  rw [not_addressed h] at haddr
  cases haddr

theorem queuesKept_grantDown {s : State} (hq : QueuesKept s.merge) (hmgmt : s.mgmt.reply = .free) : QueuesKept s.grantDown.merge := by
  obtain ⟨hreturn, hinsertion, htags, htx⟩ := hq
  refine ⟨by simpa using hreturn, by simpa using hinsertion, by simpa using htags, fun n h => ?_⟩
  unfold State.grantDown at h
  rw [hmgmt] at h
  split at h
  · cases hw : s.cycleWinner with
    | none => simp only [hw] at h; exact htx n h
    | some i =>
      simp only [hw, State.setMerge_merge, Tx.send.injEq] at h
      exact absurd h.1 (cycleSource_ne_reply i)
  · exact htx n h

theorem grantDown_mgmt {s : State} (h : s.mgmt.reply = .free) : s.grantDown.mgmt = s.mgmt := by
  unfold State.grantDown
  rw [h]
  split
  · cases s.cycleWinner <;> rfl
  · rfl

theorem Kept.grantDown {s : State} (h : Kept s) : Kept s.grantDown := by
  have hfree : s.mgmt.reply = .free := by rw [h.mgmt]; rfl
  exact ⟨by simpa using h.map, by simpa using h.run, by rw [grantDown_mgmt hfree]; exact h.mgmt, by simpa using h.spur,
    queuesKept_grantDown h.merge hfree, by simpa using h.line, by simpa using h.sup⟩

theorem Kept.grantSpur {s : State} (h : Kept s) : Kept s.grantSpur := by
  rw [grantSpur_of_disabled h.spur.1]
  exact h

theorem unaddressed_work {a b : Stage} (h : Work a b) (hs : UnaddressedOwing a) : UnaddressedOwing b := by
  cases h with
  | book s d => exact fun hadr => ⟨{ (hs hadr).1 with map := (hs hadr).1.map }, (hs hadr).2⟩
  | gap s d => exact fun hadr => ⟨{ (hs hadr).1 with map := (hs hadr).1.map }, (hs hadr).2⟩
  | receiver s d p r =>
    cases p with
    | upstream => exact fun hadr => ⟨{ (hs hadr).1 with map := (hs hadr).1.map }, (hs hadr).2⟩
    | spur => exact fun hadr => ⟨{ (hs hadr).1 with map := (hs hadr).1.map }, (hs hadr).2⟩
  | cells s _ _ haddr => exact unaddressedOwing_of_addressed (haddr : s.addressed = true)
  | event s d hdue =>
    have haddr : s.addressed = true := by simp_all [State.eventDue]
    exact unaddressedOwing_of_addressed (by simpa [State.addressed, State.buildEvent] using haddr)
  | breakReport s d hdue =>
    have haddr : s.addressed = true := by simp_all [State.breakDue]
    exact unaddressedOwing_of_addressed (by simpa [State.addressed, State.buildBreak] using haddr)
  | poll _ _ _ _ _ _ _ _ _ haddr => exact unaddressedOwing_of_addressed (by simpa [State.addressed] using haddr)
  | readReply _ _ _ _ _ _ haddr => exact unaddressedOwing_of_addressed (by simpa [State.addressed] using haddr)
  | reply _ _ _ _ _ haddr => exact unaddressedOwing_of_addressed (by simpa [State.addressed] using haddr)
  | last s _ _ haddr => exact unaddressedOwing_of_addressed (haddr : s.addressed = true)
  | run s d r hr =>
    intro hadr
    obtain ⟨hk, hd⟩ := hs hadr
    have hclosed : r = .closed := by
      rcases hr with rfl | hopen | ⟨-, hgap⟩
      · rfl
      · rw [hk.run] at hopen; cases hopen
      · exact absurd hk.sup.2.1 hgap
    exact ⟨{ hk with run := hclosed }, hd⟩
  | runPaid s d => exact fun hadr => ⟨{ (hs hadr).1 with run := rfl }, (hs hadr).2⟩
  | upCounts | count | latch => exact fun hadr => ⟨{ (hs hadr).1 with sup := (hs hadr).1.sup }, (hs hadr).2⟩
  | spurCounts => exact fun hadr => ⟨{ (hs hadr).1 with spur := (hs hadr).1.spur }, (hs hadr).2⟩
  | edge s d l h =>
    intro hadr
    obtain ⟨hk, -⟩ := hs hadr
    rcases h with haddr | ⟨i, hi⟩
    · exact absurd haddr (Bool.eq_false_iff.mp (not_addressed (s := s) hadr))
    · have hmode := (hk.line.2.2.1 i).1
      rw [hi] at hmode
      cases hmode
  | sample s d lines h =>
    intro hadr
    obtain ⟨hk, hd⟩ := hs hadr
    obtain ⟨hmode, hlatches, hlines, hcatches⟩ := hk.line
    have hlines' (i : Fin 12) : lines[i].mode = .input ∧ lines[i].retire = false := by
      rw [(h i).1, (h i).2]; exact hlines i
    exact ⟨{ hk with line := ⟨hmode, hlatches, hlines', hcatches⟩ }, hd⟩
  | enter s d q hs' _ hheld hspur =>
    intro hadr
    have hadr : s.adr = Config.broadcast := by simpa using hadr
    obtain ⟨hk, hd⟩ := hs hadr
    cases q with
    | transit =>
      obtain ⟨hreturn, hinsertion, htags, htx⟩ := hk.merge
      refine ⟨Kept.grantDown { hk with merge := ⟨hreturn, hinsertion, fun h hh => ?_, htx⟩ }, hd⟩
      exact (List.mem_append.mp hh).elim (htags h) fun hh => (hheld h hh).1
    | _ => exact absurd hk.spur.1 (hspur (by simp))

theorem headLines_of_untagged {hs : List Held} (h : ∀ x ∈ hs, x.tag = .none) : headLines hs = [] :=
  taggedLines_of_untagged fun x hx => h x (List.mem_of_mem_take hx)

theorem Kept.framesOf_untagged {s : State} (h : Kept s) (src : Source) : ∀ x ∈ s.framesOf src, x.tag = .none := by
  have hfree : s.mgmt.reply = .free := by rw [h.mgmt]; rfl
  cases src with
  | transit => exact h.merge.2.2.1
  | spurReturn => simp [State.framesOf, h.merge.1]
  | insertion => simp [State.framesOf, h.merge.2.1]
  | reply => simp [State.framesOf, hfree]
  | spurOut => simp [State.framesOf, h.spur.2]

theorem Kept.removeHead {s : State} (h : Kept s) (src : Source) : Kept (s.removeHead src) := by
  obtain ⟨hreturn, hinsertion, htags, htx⟩ := h.merge
  cases src with
  | transit => exact { h with merge := ⟨hreturn, hinsertion, fun x hx => htags x (List.mem_of_mem_drop hx), htx⟩ }
  | spurReturn => exact { h with merge := ⟨by simp [State.removeHead, hreturn], hinsertion, htags, htx⟩ }
  | insertion => exact { h with merge := ⟨hreturn, by simp [State.removeHead, hinsertion], htags, htx⟩ }
  | reply => exact { h with mgmt := by simp [State.removeHead, h.mgmt, Management.reset] }
  | spurOut => exact { h with spur := ⟨h.spur.1, by simp [State.removeHead, h.spur.2]⟩ }

/-- A change of the downstream transmitter, but for a grant of the reply, keeps what an unaddressed part keeps. -/
theorem Kept.setTx {s : State} (h : Kept s) {tx : Tx} (htx : ∀ n, tx ≠ .send .reply n) (u : LineUnit) :
    Kept (s.setMerge { s.merge with tx := tx, dout := u }) :=
  { h with merge := ⟨h.merge.1, h.merge.2.1, h.merge.2.2.1, htx⟩ }

theorem unaddressed_move {a b : Stage} (h : Move a b) (hs : UnaddressedOwing a) : UnaddressedOwing b := by
  cases h with
  | change h =>
    cases h with
    | work h => exact unaddressed_work h hs
    | silent | live => exact fun hadr => ⟨{ (hs hadr).1 with sup := (hs hadr).1.sup }, (hs hadr).2⟩
    | spur s d x w hstate => exact fun hadr => absurd (hs hadr).1.spur.1 hstate
    | swap s d hc =>
      intro hadr
      have hadr : s.adr = Config.broadcast := by
        have := (straps_of_change (.swap s d hc)).2.1
        exact this ▸ hadr
      exact absurd (congrArg Management.commit (hs hadr).1.mgmt) hc
  | sending h =>
    cases h with
    | work h => exact unaddressed_work h hs
    | down s d tx u h =>
      intro hadr
      obtain ⟨hk, hd⟩ := hs hadr
      refine ⟨hk.setTx (fun n htx => ?_) u, hd⟩
      rcases h with rfl | ⟨m, rfl⟩ | ⟨src, m, k, hsend, rfl⟩
      · exact hk.merge.2.2.2 n htx
      · cases htx
      · cases htx; exact hk.merge.2.2.2 m hsend
    | out s d tx u => exact fun hadr => ⟨{ (hs hadr).1 with spur := (hs hadr).1.spur }, (hs hadr).2⟩
    | readyDown s d u =>
      intro hadr
      obtain ⟨hk, hd⟩ := hs (by simpa using hadr)
      exact ⟨(Kept.setTx (s := s) hk (tx := .ready) (fun _ => Tx.noConfusion) u).grantDown, hd⟩
    | readySpur s d u =>
      intro hadr
      obtain ⟨hk, hd⟩ := hs (by simpa using hadr)
      exact ⟨Kept.grantSpur { hk with spur := hk.spur }, hd⟩
    | departDown s d src n u =>
      intro hadr
      obtain ⟨hk, hd⟩ := hs ((straps_of_sending (.departDown s d src n u ‹_›)).2 ▸ hadr)
      refine ⟨(hk.removeHead src).setTx (tx := .fill 0) (fun _ => Tx.noConfusion) u, ?_⟩
      show headLines (s.framesOf src) ++ d.lines = []
      rw [headLines_of_untagged (hk.framesOf_untagged src)]
      exact hd
    | departSpur s d u =>
      intro hadr
      obtain ⟨hk, hd⟩ := hs hadr
      refine ⟨{ hk with spur := ⟨hk.spur.1, by rw [show (s, d).1.spur.queue = [] from hk.spur.2]; rfl⟩ }, ?_⟩
      show headLines (s.framesOf .spurOut) ++ d.lines = []
      rw [headLines_of_untagged (hk.framesOf_untagged .spurOut)]
      exact hd
    | told s l ls b => exact fun hadr => absurd (hs hadr).2 (by simp)
    | reset s d =>
      intro hadr
      obtain ⟨hk, hd⟩ := hs hadr
      obtain ⟨hreturn, hinsertion, htags, -⟩ := hk.merge
      exact ⟨{ hk with merge := ⟨hreturn, hinsertion, htags, nofun⟩, spur := hk.spur }, hd⟩
  | map s _ _ haddr | settings s _ _ haddr | configure s _ _ _ _ _ haddr | reporting s _ _ _ _ haddr | manager s _ _ _ haddr
  | reserve s _ _ _ haddr | disable s _ _ haddr | fullReset s _ haddr => exact unaddressedOwing_of_addressed (haddr : s.addressed = true)
  | enable s d watch haddr =>
    simp only [State.enableSpur]
    split <;> exact unaddressedOwing_of_addressed (haddr : s.addressed = true)
  | watchTime s d watch => exact fun hadr => ⟨{ (hs hadr).1 with spur := (hs hadr).1.spur }, (hs hadr).2⟩
  | discarded s l ls b => exact fun hadr => absurd (hs hadr).2 (by simp)
  | flush s d lost hlost =>
    intro hadr
    have heq := trafficFlush_eq s
    obtain ⟨hk, hd⟩ := hs (by rw [heq] at hadr; exact hadr)
    refine ⟨?_, ?_⟩
    · rw [heq]
      exact { hk with run := rfl, merge := ⟨rfl, rfl, nofun, nofun⟩, spur := ⟨hk.spur.1, rfl⟩ }
    · have huntagged : taggedLines lost = [] := by
        refine taggedLines_of_untagged fun x hx => ?_
        obtain ⟨hreturn, hinsertion, htags, -⟩ : QueuesKept s.merge := hk.merge
        have hqueue : s.spur.queue = [] := hk.spur.2
        refine htags x ?_
        simpa [hreturn, hinsertion, hqueue] using hlost.mem_iff.mp hx
      show taggedLines lost ++ d.lines = []
      rw [huntagged]
      exact hd
  | release _ _ _ _ _ _ haddr => exact unaddressedOwing_of_addressed (by simpa [State.addressed, State.releaseTx] using haddr)

theorem unaddressedLaw_powerOn (rate : BitVec 2) (adr : Addr) (pins : BitVec 12) : UnaddressedLaw (State.powerOn rate adr pins) := by
  refine (unaddressedLaw_iff _).mpr fun _ => ⟨rfl, rfl, rfl, ⟨rfl, rfl⟩, ⟨rfl, rfl, nofun, nofun⟩, ?_, rfl, rfl, rfl⟩
  exact ⟨rfl, rfl, fun i => by rw [show (State.powerOn rate adr pins).line.lines[i] = _ from lines_reset _ i]; exact ⟨rfl, rfl⟩,
    fun l => catchOf_reset _ l⟩

theorem law_unaddressed : Law UnaddressedOwing :=
  ⟨fun rate adr pins hadr => ⟨(unaddressedLaw_iff _).mp (unaddressedLaw_powerOn rate adr pins) hadr, rfl⟩, unaddressed_move⟩

/-- Settles O57: the addresses are set by moves that examine them, and an unaddressed part makes no move of a command, an EVENT or a
BREAK, and none of a spur. -/
theorem addressesStayLegal : Obligations.AddressesStayLegal := by
  intro s t ht
  refine ⟨law_addresses.step ht, fun hs => (unaddressedLaw_iff t).mpr fun hadr => ?_⟩
  exact (law_unaddressed.step ht (fun h => ⟨(unaddressedLaw_iff s).mp hs h, rfl⟩) hadr).1

/-- Settles O58: each law's power-on lemma. -/
theorem allLawsHoldAtPowerOn : Obligations.AllLawsHoldAtPowerOn := by
  rintro rate adr pins s rfl
  have hbanks := clearPagesStayBlank.1 rate adr pins
  exact ⟨storesBounded_powerOn _ _ _, framesSendable_powerOn _ _ _, mapLaw_powerOn _ _ _, hbanks.2, hbanks.1,
    reportingLaw_powerOn _ _ _, countsInRange_powerOn _ _ _, runLaw_powerOn _ _ _, spurLaw_powerOn _ _ _, transmitLaw_powerOn _ _ _,
    addressesLaw_powerOn _ _ _, catchLaw_powerOn _ _ _, unaddressedLaw_powerOn _ _ _⟩

end Sys2Proof.Proofs

/-! ## Straps, generation and counters (R2, R5, R38, R61, R168) -/

namespace Sys2Proof.Proofs

open Sys2Proof Sys2Proof.Machine

/-! ### Which commands carry a reset or a CLEAR -/

/-- R18: a FULL reset has command digit 0h and scope 2h. -/
theorem parseCommand_reset {own : Addr} {code : Digit} {args : List Digit} (h : parseCommand own code args = .command (.reset true)) :
    code = 0#4 ∧ args = [2#4] := by
  unfold parseCommand at h
  split at h
  case h_1 hcode =>
    refine ⟨BitVec.eq_of_toNat_eq hcode, ?_⟩
    unfold parseReset at h
    split at h
    · simp only [unless_eq_command_iff, Command.reset.injEq, decide_eq_true_eq] at h
      rw [h.2]
    · cases h
  case h_4 =>
    unfold parseLoadPatterns at h
    split at h
    · split_ifs at h; simp [unless_eq_command_iff] at h
    · cases h
  all_goals
    simp only [parseLoadEntry, parseLoadBlock, parseBare, parseReadEntry, parseReadPatterns, parseReadCounters,
      parseClear, parseSetLine, parseSetReporting, parseSetSpur, parseSetOptions, parseSetManager] at h
    split at h <;> simp [unless_eq_command_iff] at h

/-- R18: a CLEAR has command digit Ah, and its selection is its argument. -/
theorem parseCommand_clear {own : Addr} {code : Digit} {args : List Digit} {x : Digit}
    (h : parseCommand own code args = .command (.clear x)) : code = 0xA#4 ∧ args = [x] := by
  unfold parseCommand at h
  split at h
  case h_11 hcode =>
    refine ⟨BitVec.eq_of_toNat_eq hcode, ?_⟩
    unfold parseClear at h
    split at h
    · simp only [unless_eq_command_iff, Command.clear.injEq] at h
      rw [h.2]
    · cases h
  case h_4 =>
    unfold parseLoadPatterns at h
    split at h
    · split_ifs at h; simp [unless_eq_command_iff] at h
    · cases h
  all_goals
    simp only [parseReset, parseLoadEntry, parseLoadBlock, parseBare, parseReadEntry, parseReadPatterns, parseReadCounters,
      parseSetLine, parseSetReporting, parseSetSpur, parseSetOptions, parseSetManager] at h
    split at h <;> simp [unless_eq_command_iff] at h

/-- Of the rows named after own frames, RESET_FULL alone is a MGMT frame that carries a FULL reset. -/
theorem resetFull_of_ownFrame {i : Instr} {q : Requester} {kind : Digit} {payload : List Digit}
    (h : ownFrameOf i = some (q, kind, payload)) (hkind : kindOf kind = .mgmt) (hcode : payload.headD 0#4 = 0#4)
    (hargs : payload.drop 1 = [2#4]) : i = .resetFull q := by
  cases i <;> cases h <;> simp [kindOf] at hkind hcode hargs ⊢

/-- Of the rows named after own frames, those of CLEAR alone are MGMT frames that carry a CLEAR. -/
theorem clear_of_ownFrame {i : Instr} {q : Requester} {kind : Digit} {payload : List Digit} {x : Digit}
    (h : ownFrameOf i = some (q, kind, payload)) (hkind : kindOf kind = .mgmt) (hcode : payload.headD 0#4 = 0xA#4)
    (hargs : payload.drop 1 = [x]) :
    (∃ b, i = .clearFaultLatches q b ∧ x = if b then 3#4 else 1#4) ∨ ∃ b, i = .clearCounters q b := by
  cases i <;> cases h <;> simp [kindOf, eq_comm] at hkind hcode hargs ⊢
  exact hargs

/-! ### The generation (R38, R40, R61) -/

/-- What frames, units and due events do to the map store and the pending commit: nothing; or one swap, which needs a pending commit,
leaves none, and leaves the reply slot in use. -/
def SwapsOnce (s t : State) : Prop :=
  (t.map = s.map ∧ t.mgmt.commit = s.mgmt.commit ∧ (s.mgmt.reply ≠ .free → t.mgmt.reply ≠ .free)) ∨
  (t.map = s.map.exchange ∧ s.mgmt.commit ≠ none ∧ t.mgmt.commit = none ∧ t.mgmt.reply ≠ .free)

theorem SwapsOnce.refl (s : State) : SwapsOnce s s := .inl ⟨rfl, rfl, id⟩

theorem SwapsOnce.trans {s t u : State} (h : SwapsOnce s t) (k : SwapsOnce t u) : SwapsOnce s u := by
  rcases h with ⟨hmap, hcommit, hreply⟩ | ⟨hmap, hpending, hcommit, hreply⟩
  · rcases k with ⟨kmap, kcommit, kreply⟩ | ⟨kmap, kpending, kcommit, kreply⟩
    · exact .inl ⟨kmap.trans hmap, kcommit.trans hcommit, kreply ∘ hreply⟩
    · exact .inr ⟨by rw [kmap, hmap], hcommit ▸ kpending, kcommit, kreply⟩
  · rcases k with ⟨kmap, kcommit, kreply⟩ | ⟨-, kpending, -, -⟩
    · exact .inr ⟨kmap.trans hmap, hpending, kcommit.trans hcommit, kreply hreply⟩
    · exact absurd hcommit kpending

theorem grantDown_reply_ne_free {s : State} (h : s.mgmt.reply ≠ .free) : s.grantDown.mgmt.reply ≠ .free := by
  unfold State.grantDown
  split
  · split
    · simp
    · split <;> exact h
  · exact h

theorem fillReply_reply_ne_free (s : State) (ds : List Digit) : (s.fillReply ds).mgmt.reply ≠ .free :=
  grantDown_reply_ne_free (s := s.setMgmt { s.mgmt with reply := .full ds }) (by simp)

theorem enter_reply_ne_free {s : State} (h : s.mgmt.reply ≠ .free) (q : Target) (hs : List Held) :
    (s.enter q hs).mgmt.reply ≠ .free := by
  cases q with
  | transit | spurReturn => exact grantDown_reply_ne_free h
  | spurOut => simpa [State.enter] using h

theorem work_reply_ne_free {a b : Stage} (h : Work a b) (hs : a.1.mgmt.reply ≠ .free) : b.1.mgmt.reply ≠ .free := by
  cases h with
  | receiver s d p r => cases p <;> exact hs
  | event s d | breakReport s d | readReply s d => exact grantDown_reply_ne_free hs
  | enter s d q hs' => exact enter_reply_ne_free hs q _
  | poll s d q ls => exact enter_reply_ne_free (s := s.setLines (s.line.record ls)) hs q _
  | reply s d => exact fillReply_reply_ne_free s _
  | _ => exact hs

theorem swapsOnce_swap {s : State} (h : s.mgmt.commit ≠ none) : SwapsOnce s s.swap := by
  obtain ⟨c, hc⟩ := Option.ne_none_iff_exists'.mp h
  rw [swap_of_commit hc]
  exact .inr ⟨by simp, h, by simp, fillReply_reply_ne_free _ _⟩

theorem swapsOnce_change {a b : Stage} (h : Change a b) : SwapsOnce a.1 b.1 := by
  cases h with
  | work h =>
    have hsame := sameStates_of_work h
    exact .inl ⟨hsame.map, hsame.commit, work_reply_ne_free h⟩
  | swap s d hc => exact swapsOnce_swap hc
  | _ => exact .refl _

theorem Changes.swapsOnce {d : Debt} {s t : State} (h : Changes d s t) : SwapsOnce s t := by
  suffices hstage : ∀ a b : Stage, Relation.ReflTransGen Change a b → SwapsOnce a.1 b.1 from hstage _ _ h
  intro a b hab
  induction hab with
  | refl => exact .refl _
  | tail _ hstep ih => exact ih.trans (swapsOnce_change hstep)

theorem map_of_sending {a b : Stage} (h : Sending a b) : b.1.map = a.1.map := by
  cases h with
  | work h => exact (sameStates_of_work h).map
  | readyDown | readySpur => simp
  | departDown s d src => exact removeHead_map s src
  | _ => rfl

theorem Sends.map {d : Debt} {s t : State} (h : Sends d s t) : t.map = s.map := by
  suffices hstage : ∀ a b : Stage, Relation.ReflTransGen Sending a b → b.1.map = a.1.map from hstage _ _ h
  intro a b hab
  induction hab with
  | refl => rfl
  | tail _ hstep ih => exact (map_of_sending hstep).trans ih

/-- The map store has kept its active bank and generation, or has exchanged its banks once. -/
def GenerationFits (m n : MapStore) : Prop :=
  n.active = m.active ∧ n.generation = m.generation ∨ n.active ≠ m.active ∧ n.generation = m.generation + 1#4

theorem generationFits_of_eq {m n : MapStore} (h : n = m) : GenerationFits m n := h ▸ .inl ⟨rfl, rfl⟩

theorem generationFits_exchange (m : MapStore) : GenerationFits m m.exchange := by
  refine .inr ⟨?_, rfl⟩
  cases h : m.active <;> simp [MapStore.exchange, h]

theorem generationFits_setStaging (m : MapStore) (b : Bank) : GenerationFits m (m.setStaging b) := by
  unfold MapStore.setStaging
  split <;> exact .inl ⟨rfl, rfl⟩

theorem SwapsOnce.generationFits {s t : State} (h : SwapsOnce s t) : GenerationFits s.map t.map := by
  rcases h with ⟨hmap, -⟩ | ⟨hmap, -⟩
  · exact generationFits_of_eq hmap
  · exact hmap ▸ generationFits_exchange _

theorem generationFits_doCommit (s : State) (f : Frame) : GenerationFits s.map (s.doCommit f).map := by
  unfold State.doCommit
  split
  · exact generationFits_of_eq (answerWith_map _ _ _ _)
  · unfold State.acceptCommit
    dsimp only
    split
    · exact (swapsOnce_swap (s := s.setMgmt { s.mgmt with reply := .reserved, commit := some (f.src, f.seq) }) (by simp)).generationFits
    · exact generationFits_of_eq rfl

/-- R146, R148, R154: of the commands only a FULL reset does to the active bank and the generation what no swap does. -/
theorem generationFits_execute (s : State) (f : Frame) {c : Command} (hc : c ≠ .reset true) :
    GenerationFits s.map (s.execute f c).map := by
  have hload (b : Bank) : GenerationFits s.map ((s.setMap (s.map.setStaging b)).answerWith f statusOk []).map := by
    rw [answerWith_map]
    exact generationFits_setStaging _ _
  cases c with
  | reset full =>
    cases full with
    | false => exact generationFits_of_eq ((answerWith_map _ _ _ _).trans (trafficReset_map s))
    | true => exact absurd rfl hc
  | loadEntry | loadBlock | loadPatterns | copyActive => exact hload _
  | commit => exact generationFits_doCommit s f
  | setReporting mode a code =>
    exact generationFits_of_eq ((answerWith_map _ _ _ _).trans (keepsMap_setReporting _ _ _ _).map)
  | setSpur enable watch => exact generationFits_of_eq (doSetSpur_map _ _ _ _)
  | _ => exact generationFits_of_eq (answerWith_map _ _ _ _)

/-- Settles O59: frames, units and due events swap at most once, and leave the reply slot in use where they have; a command is
executed only while the slot is FREE; and of the commands only a FULL reset sets the bank and the generation. -/
theorem strapsAndGenerationChangeOnlyByTheirEvents : Obligations.StrapsAndGenerationChangeOnlyByTheirEvents := by
  intro s t i h
  have hfits {u v : State} (hv : GenerationFits u.map v.map) : v.map.active = u.map.active ∧ v.map.generation = u.map.generation ∨
      v.map.active ≠ u.map.active ∧ v.map.generation = u.map.generation + 1#4 ∨
      v.map.active = .a ∧ v.map.generation = 0#4 ∧ ((∃ rate adr pins, i = .powerOnReset rate adr pins) ∨
        (∃ p u, i = .receiveUnit p u) ∨ (∃ p e ds, i = .takeFrame p e ds) ∨ ∃ q, i = .resetFull q) := hv.imp_right .inl
  cases ran_exec h with
  | held ht => subst ht; exact ⟨fun _ => ⟨rfl, rfl⟩, hfits (generationFits_of_eq rfl)⟩
  | powerOn rate adr pins hi ht =>
    subst ht
    exact ⟨fun hne => absurd hi (hne rate adr pins), .inr (.inr ⟨rfl, rfl, .inl ⟨rate, adr, pins, hi⟩⟩)⟩
  | sent u hu ht =>
    refine ⟨fun _ => (hu.moves.trans ht.moves).straps, hfits ?_⟩
    rw [ht.map]
    exact hu.swapsOnce.generationFits
  | carried hc =>
    refine ⟨fun _ => hc.moves.straps, ?_⟩
    obtain ⟨u, v, hu, ht, rfl | ⟨f, c, hf, hkind, -, hfree, hparse, rfl⟩⟩ := hc
    · exact hfits (by rw [ht]; exact hu.swapsOnce.generationFits)
    · have hmap : u.map = s.map := by
        rcases hu.swapsOnce with ⟨hmap, -⟩ | ⟨-, -, -, hreply⟩
        · exact hmap
        · exact absurd hfree hreply
      have htmap : t.map = (u.execute f c).map := by rw [ht]; rfl
      by_cases hc : c = .reset true
      · subst hc
        have hreset : t.map = .reset := by
          rw [htmap]
          exact (answerWith_map _ _ _ _).trans (fullReset_map u)
        refine .inr (.inr ⟨by rw [hreset]; rfl, by rw [hreset]; rfl, ?_⟩)
        rcases hf with hunit | htake | ⟨q, kind, payload, hown, rfl⟩
        · exact .inr (.inl hunit)
        · exact .inr (.inr (.inl htake))
        · obtain ⟨hcode, hargs⟩ := parseCommand_reset hparse
          exact .inr (.inr (.inr ⟨q, resetFull_of_ownFrame hown hkind hcode hargs⟩))
      · exact hfits (by rw [htmap, ← hmap]; exact generationFits_execute u f hc)

/-! ### The counters (R168, R169) -/

/-- No counter has fallen. -/
def CountersRise (s t : State) : Prop := ∀ k, (s.sup.countOf k).toNat ≤ (t.sup.countOf k).toNat

theorem CountersRise.refl (s : State) : CountersRise s s := fun _ => le_rfl

theorem CountersRise.trans {s t u : State} (h : CountersRise s t) (k : CountersRise t u) : CountersRise s u :=
  fun c => (h c).trans (k c)

theorem CountersRise.of_eq {s t : State} (h : t.sup.counters = s.sup.counters) : CountersRise s t := fun k => by
  rw [Supervision.countOf, Supervision.countOf, h]

theorem toNat_raiseCount (c : Count) : (raiseCount c).toNat = min (c.toNat + 1) 255 := by
  unfold raiseCount
  have := c.isLt
  split
  · next h => subst h; rfl
  · next h =>
    have hne : c.toNat ≠ 255 := fun e => h (BitVec.eq_of_toNat_eq e)
    rw [BitVec.toNat_add]
    simp only [BitVec.toNat_ofNat]
    omega

theorem countersRise_count (s : State) (c : Counter) : CountersRise s (s.count c) := by
  intro k
  rw [State.countOf_count]
  split
  · next h =>
    subst h
    have := (s.sup.countOf k).isLt
    rw [toNat_raiseCount]
    omega
  · exact le_rfl

theorem countersRise_work {a b : Stage} (h : Work a b) : CountersRise a.1 b.1 := by
  cases h with
  | receiver s d p r => cases p <;> exact .refl _
  | count s d c => exact countersRise_count s c
  | event | breakReport | enter | poll | readReply | reply => exact .of_eq (by simp [State.buildEvent, State.buildBreak])
  | _ => exact .of_eq rfl

theorem swap_sup (s : State) : s.swap.sup = s.sup := by
  cases hc : s.mgmt.commit with
  | none => rw [swap_of_no_commit hc]
  | some c => rw [swap_of_commit hc]; simp

theorem countersRise_sending {a b : Stage} (h : Sending a b) : CountersRise a.1 b.1 := by
  cases h with
  | work h => exact countersRise_work h
  | readyDown | readySpur => exact .of_eq (by simp)
  | departDown s d src => cases src <;> exact .of_eq rfl
  | _ => exact .of_eq rfl

theorem countersRise_change {a b : Stage} (h : Change a b) : CountersRise a.1 b.1 := by
  cases h with
  | work h => exact countersRise_work h
  | swap s d => exact .of_eq (by rw [swap_sup])
  | _ => exact .of_eq rfl

theorem Changes.countersRise {d : Debt} {s t : State} (h : Changes d s t) : CountersRise s t := by
  suffices hstage : ∀ a b : Stage, Relation.ReflTransGen Change a b → CountersRise a.1 b.1 from hstage _ _ h
  intro a b hab
  induction hab with
  | refl => exact .refl _
  | tail _ hstep ih => exact ih.trans (countersRise_change hstep)

theorem Sends.countersRise {d : Debt} {s t : State} (h : Sends d s t) : CountersRise s t := by
  suffices hstage : ∀ a b : Stage, Relation.ReflTransGen Sending a b → CountersRise a.1 b.1 from hstage _ _ h
  intro a b hab
  induction hab with
  | refl => exact .refl _
  | tail _ hstep ih => exact ih.trans (countersRise_sending hstep)

@[simp] theorem answerWith_sup (s : State) (f : Frame) (status : Digit) (data : List Digit) :
    (s.answerWith f status data).sup = s.sup := by
  simp [State.answerWith, State.recordReply, State.reply]

theorem examineBreak_counters (s : State) : s.examineBreak.sup.counters = s.sup.counters := by
  unfold State.examineBreak
  split
  · simp [State.buildBreak]
  · rfl

theorem discardBreaks_counters (s : State) (hs : List Held) : (s.discardBreaks hs).sup.counters = s.sup.counters := by
  unfold State.discardBreaks
  induction hs generalizing s with
  | nil => rfl
  | cons h hs ih =>
    rw [List.foldl_cons, ih]
    cases h.tag <;> rfl

theorem eitherOrder_counters {f g : State → State} (hf : ∀ u : State, (f u).sup.counters = u.sup.counters)
    (hg : ∀ u : State, (g u).sup.counters = u.sup.counters) (s : State) : (s.eitherOrder f g).sup.counters = s.sup.counters := by
  unfold State.eitherOrder
  split
  · split
    · rw [hg, hf]; rfl
    · rw [hf, hg]; rfl
  · rw [hg, hf]

theorem discardReports_counters (s : State) (hs : List Held) : (s.discardReports hs).sup.counters = s.sup.counters := by
  obtain ⟨-, -, -, -, -, -, -, -, -, hsup, -⟩ := (eventEffect_moveLines LineBlock.discard (reportGroups hs) s).frame
  exact congrArg Supervision.counters hsup

theorem examineEvent_counters (s : State) : s.examineEvent.sup.counters = s.sup.counters := by
  obtain ⟨-, -, -, -, -, -, -, -, -, hsup, -⟩ := (eventEffect_examineEvent s).frame
  exact congrArg Supervision.counters hsup

theorem trafficReset_counters (s : State) : s.trafficReset.sup.counters = s.sup.counters := by
  unfold State.trafficReset
  dsimp only
  refine (eitherOrder_counters (fun u => discardReports_counters u _) examineBreak_counters _).trans ?_
  rw [discardBreaks_counters, trafficFlush_eq]
  split <;> rfl

theorem fullReset_counters (s : State) (k : Counter) : s.fullReset.sup.countOf k = 0#8 := by
  rw [fullReset_eq_fullFlush, Supervision.countOf]
  show (fullFlush s).examineBreak.sup.counters[k.place] = 0#8
  rw [examineBreak_counters]
  exact tabulate_getElem _ _

theorem disableSpur_counters (s : State) (watch : Digit) : (s.disableSpur watch).sup.counters = s.sup.counters := by
  rw [disableSpur_eq]
  split
  · rfl
  · rw [discardReports_counters]; rfl

theorem doSetSpur_counters (s : State) (f : Frame) (enable : Bool) (watch : Digit) :
    (s.doSetSpur f enable watch).sup.counters = s.sup.counters := by
  unfold State.doSetSpur
  split
  · rw [answerWith_sup]; unfold State.enableSpur; split <;> rfl
  · split
    · rw [answerWith_sup, disableSpur_counters]
    · split
      · rw [answerWith_sup]
      · rw [answerWith_sup, disableSpur_counters]

theorem setReporting_counters (s : State) (mode : ReportMode) (a : Addr) (code : BitVec 2) :
    (s.setReporting mode a code).sup.counters = s.sup.counters := by
  unfold State.setReporting
  refine eitherOrder_counters (fun u => ?_) (fun u => ?_) _
  · split
    · exact examineEvent_counters u
    · rfl
  · split
    · exact examineBreak_counters u
    · rfl

theorem doCommit_counters (s : State) (f : Frame) : (s.doCommit f).sup.counters = s.sup.counters := by
  unfold State.doCommit
  split
  · rw [answerWith_sup]
  · unfold State.acceptCommit
    dsimp only
    split
    · rw [swap_sup]; rfl
    · rfl

/-- R146 to R154, R169: of the commands only a FULL reset and a CLEAR of the counters change a counter. -/
theorem execute_counters (s : State) (f : Frame) {c : Command} (hreset : c ≠ .reset true)
    (hclear : ∀ x : Digit, x.getLsbD 1 = true → c ≠ .clear x) : (s.execute f c).sup.counters = s.sup.counters := by
  cases c with
  | reset full =>
    cases full with
    | false => exact (congrArg _ (answerWith_sup _ _ _ _)).trans (trafficReset_counters s)
    | true => exact absurd rfl hreset
  | commit => exact doCommit_counters s f
  | clear x =>
    have hx : x.getLsbD 1 = false := Bool.eq_false_iff.mpr fun h => hclear x h rfl
    simp only [State.execute, answerWith_sup, Supervision.clear, State.setSup_sup, hx, Bool.false_eq_true, if_false]
  | setReporting mode a code => exact (congrArg _ (answerWith_sup _ _ _ _)).trans (setReporting_counters _ _ _ _)
  | setSpur enable watch => exact doSetSpur_counters _ _ _ _
  | setOptions policy gap silence => simp only [State.execute, answerWith_sup, State.setSup_sup]
  | _ => exact congrArg _ (answerWith_sup _ _ _ _)

theorem execute_clear_counters (s : State) (f : Frame) {x : Digit} (hx : x.getLsbD 1 = true) (k : Counter) :
    (s.execute f (.clear x)).sup.countOf k = 0#8 := by
  simp only [State.execute, answerWith_sup, Supervision.clear, State.setSup_sup, hx, if_true, Supervision.countOf]
  exact tabulate_getElem _ _

/-- Settles O60: every cause of a counter raises it, and what takes one down is the power-on state, a FULL reset or a CLEAR. -/
theorem countersFallOnlyWhenCleared : Obligations.CountersFallOnlyWhenCleared := by
  intro s t i h k
  cases ran_exec h with
  | held ht => exact .inl (ht ▸ le_rfl)
  | powerOn rate adr pins hi ht =>
    subst ht
    exact .inr ⟨tabulate_getElem _ _, .inl ⟨rate, adr, pins, hi⟩⟩
  | sent u hu ht => exact .inl ((hu.countersRise.trans ht.countersRise) k)
  | carried hc =>
    obtain ⟨u, v, hu, ht, rfl | ⟨f, c, hf, hkind, -, -, hparse, rfl⟩⟩ := hc
    · rw [ht]; exact .inl (hu.countersRise k)
    · rw [ht]
      show (s.sup.countOf k).toNat ≤ ((u.execute f c).sup.countOf k).toNat ∨ (u.execute f c).sup.countOf k = 0#8 ∧ _
      by_cases hreset : c = .reset true
      · subst hreset
        refine .inr ⟨?_, .inr ?_⟩
        · exact (congrArg (Supervision.countOf · k) (answerWith_sup u.fullReset f _ _)).trans (fullReset_counters u k)
        · rcases hf with hunit | htake | ⟨q, kind, payload, hown, rfl⟩
          · exact .inl hunit
          · exact .inr (.inl htake)
          · obtain ⟨hcode, hargs⟩ := parseCommand_reset hparse
            exact .inr (.inr (.inl ⟨q, resetFull_of_ownFrame hown hkind hcode hargs⟩))
      by_cases hclear : ∃ x : Digit, x.getLsbD 1 = true ∧ c = .clear x
      · obtain ⟨x, hx, rfl⟩ := hclear
        refine .inr ⟨execute_clear_counters u f hx k, .inr ?_⟩
        rcases hf with hunit | htake | ⟨q, kind, payload, hown, rfl⟩
        · exact .inl hunit
        · exact .inr (.inl htake)
        · obtain ⟨hcode, hargs⟩ := parseCommand_clear hparse
          rcases clear_of_ownFrame hown hkind hcode hargs with ⟨b, rfl, hb⟩ | ⟨b, rfl⟩
          · cases b with
            | true => exact .inr (.inr (.inr (.inl ⟨q, rfl⟩)))
            | false => rw [hb] at hx; exact absurd hx (by decide)
          · exact .inr (.inr (.inr (.inr ⟨q, b, rfl⟩)))
      · refine .inl ((hu.countersRise.trans (.of_eq ?_)) k)
        exact execute_counters u f hreset fun x hx hc => hclear ⟨x, hx, hc⟩

end Sys2Proof.Proofs

/-! ## The queue of commands, the RESET pin, and the cells (R2, R5, R15, R118) -/

namespace Sys2Proof.Proofs

open Sys2Proof Sys2Proof.Machine

/-- Settles O1: a step looks at the queue's front alone. -/
theorem stepRunsTheCommandInFront : Obligations.StepRunsTheCommandInFront := by
  intro c rest s h
  unfold step
  rw [h]

/-- Settles O3: each block of the power-on state, the vectors element by element. -/
theorem powerOnResetSetsEveryBlock : Obligations.PowerOnResetSetsEveryBlock := by
  intro rate adr pins s
  refine ⟨s.release rate adr pins, rfl, rfl, rfl, rfl, rfl, rfl, rfl, fun a => ⟨rfl, rfl⟩, fun p i => ⟨rfl, rfl⟩, rfl, rfl, rfl, rfl,
    rfl, rfl, rfl, rfl, rfl, rfl, rfl, rfl, rfl, rfl, rfl, rfl, fun l => lines_reset _ l, fun l => ?_, catchOf_reset _ _,
    fun i => tabulate_getElem _ _, rfl, rfl, rfl, rfl, rfl, rfl, rfl, rfl, rfl, rfl, rfl, fun c => tabulate_getElem _ _, rfl, rfl, rfl,
    rfl, rfl⟩
  refine (catchOf_reset _ (pinLine l)).trans ?_
  rw [if_neg (pinLine_ne_pseudoLine l)]
  rfl

/-- Assumption log 5: while RESET is low a command but the release does nothing. -/
theorem exec_of_low {s : State} (h : s.resetLow = true) {c : Instr} (hc : ∀ rate adr pins, c ≠ .powerOnReset rate adr pins) :
    exec c s = .next s := by
  cases c with
  | powerOnReset rate adr pins => exact absurd rfl (hc rate adr pins)
  | _ => exact congrArg Host.Outcome.next (if_pos h)

/-- Settles O4. -/
theorem resetHeldLowStopsThePart : Obligations.ResetHeldLowStopsThePart :=
  ⟨fun _ hquiet => State.settled_of_quiet hquiet State.assertReset, fun _ _ hlow hc => exec_of_low hlow hc⟩

/-! ### The cells -/

theorem getLsbD_digitOfBits (b0 b1 b2 b3 : Bool) : (digitOfBits b0 b1 b2 b3).getLsbD 0 = b0 ∧ (digitOfBits b0 b1 b2 b3).getLsbD 1 = b1 ∧
    (digitOfBits b0 b1 b2 b3).getLsbD 2 = b2 ∧ (digitOfBits b0 b1 b2 b3).getLsbD 3 = b3 := by
  revert b0 b1 b2 b3; decide

/-- Bit j of the digit of a group shows line 4i + j. -/
theorem getLsbD_cellDigit (i : Fin 3) (f : Fin 12 → Bool) (j : Fin 4) : (cellDigit i f).getLsbD j.val = f (cellLine i j) := by
  obtain ⟨h0, h1, h2, h3⟩ := getLsbD_digitOfBits (f (cellLine i 0)) (f (cellLine i 1)) (f (cellLine i 2)) (f (cellLine i 3))
  match j with
  | 0 => exact h0
  | 1 => exact h1
  | 2 => exact h2
  | 3 => exact h3

theorem cellClass_latch (i : Fin 3) : cellClass (BitVec.ofNat 4 i.val) = .latch i := by revert i; decide

theorem cellClass_level (i : Fin 3) : cellClass (BitVec.ofNat 4 (4 + i.val)) = .level i := by revert i; decide

theorem cellClass_pendingFlags (i : Fin 3) : cellClass (BitVec.ofNat 4 (8 + i.val)) = .pendingFlags i := by revert i; decide

theorem absentCell_iff (c : Digit) : absentCell c ↔ cellClass c = .absent := by
  unfold absentCell; revert c; decide

theorem latchBit_cellLine (b : LineBlock) (i : Fin 3) (j : Fin 4) : b.latchBit (cellLine i j) = (b.latches[i]).getLsbD j.val := by
  have hdiv : (cellLine i j).val / 4 = i.val := by simp only [cellLine]; omega
  have hmod : (cellLine i j).val % 4 = j.val := by simp only [cellLine]; omega
  simp only [LineBlock.latchBit, hdiv, hmod]
  rfl

/-- Settles O27: the class of each of the sixteen cells, and the bits of the digits made of four lines. -/
theorem cellsShowTheLines : Obligations.CellsShowTheLines := by
  intro s
  have hline {i : Fin 3} {j : Fin 4} {l : Fin 12} (hl : l.val = 4 * i.val + j.val) : l = cellLine i j := Fin.ext hl
  refine ⟨fun i => ?_, fun i j l hl => ?_, fun i j l hl => ?_, getLsbD_digitOfBits _ _ _ _ |>.imp id (And.imp id (And.imp id ?_)),
    fun c hc => ?_⟩
  · rw [State.cell, cellClass_latch]
  · obtain rfl := hline hl
    rw [State.cell, cellClass_level]
    simp only [getLsbD_cellDigit, LineBlock.levelShown]
    cases s.line.lines[cellLine i j].mode with
    | output => exact latchBit_cellLine _ _ _
    | _ => rfl
  · obtain rfl := hline hl
    rw [State.cell, cellClass_pendingFlags]
    simp only [getLsbD_cellDigit, LineBlock.pendingFlag]
    simp
  · rintro h
    refine h.trans ?_
    cases s.mgmt.manager0 <;> cases s.mgmt.manager1 <;> rfl
  · rw [State.cell, (absentCell_iff c).mp hc]

end Sys2Proof.Proofs

/-! ## The lines that a step moves, and the EVENT that it builds (R122 to R126, R132)

The lines of a step move group by group, and the conditions of R132 are examined after each group that is a cause. At most one EVENT is
built: it takes the lines that are CAUGHT then, and holds the place of the insertion queue until it has gone. `AfterMoves` says what the
part is after some groups; one lemma carries it over a group. -/

namespace Sys2Proof.Proofs

open Sys2Proof Sys2Proof.Machine

/-! ### The grant reads the merge unit and the reply slot alone -/

theorem cycleWinner_congr {s t : State} (h : t.merge = s.merge) : t.cycleWinner = s.cycleWinner := by
  have hqueue (i : Fin 4) : t.framesOf (cycleSource i) = s.framesOf (cycleSource i) := by
    rw [framesOf_cycleSource, framesOf_cycleSource]
    unfold queueAt
    rw [h]
  simp only [State.cycleWinner, hqueue, h]

/-- R96 to R99: the check for a grant sets the merge unit and the reply slot, from what they are, and nothing else. -/
theorem grantDown_of_same {s t : State} (hmerge : t.merge = s.merge) (hmgmt : t.mgmt = s.mgmt) :
    t.grantDown = { t with merge := s.grantDown.merge, mgmt := s.grantDown.mgmt } := by
  unfold State.grantDown
  rw [hmerge, hmgmt, cycleWinner_congr hmerge]
  split
  · split
    · rfl
    · split
      · rw [State.setMerge_mgmt, ← hmgmt]; rfl
      · rw [← hmerge, ← hmgmt]
  · rw [← hmerge, ← hmgmt]

/-- R94, R96: an insertion sets the merge unit and the reply slot, from what they are, and nothing else. -/
theorem insert_of_same {s t : State} (hmerge : t.merge = s.merge) (hmgmt : t.mgmt = s.mgmt) (x : Held) :
    t.insert x = { t with merge := (s.insert x).merge, mgmt := (s.insert x).mgmt } := by
  unfold State.insert
  exact grantDown_of_same (by rw [State.setMerge_merge, State.setMerge_merge, hmerge]) hmgmt

theorem setLines_insert (s : State) (b : LineBlock) (x : Held) : (s.insert x).setLines b = (s.setLines b).insert x := by
  rw [insert_of_same (s := s) (t := s.setLines b) rfl rfl, insert_of_same (s := s) (t := s) rfl rfl]
  rfl

/-! ### After some lines have moved -/

/-- R132: the EVENT that reports these lines with these counts. -/
def eventOf (s : State) (ls : List (Fin 13)) (count : Fin 13 → Digit) : Held :=
  { digits := (eventFrame s.adr s.line.reportAddr s.line.eventSeq (ls.flatMap fun l => [lineDigit l, count l])).digits
    tag := .report ls }

theorem eventTold_eq (s t : State) (ls : List (Fin 13)) : eventTold s t ls = eventOf s ls fun l => (t.line.catchOf l).c := rfl

theorem eventOf_congr (s : State) {ls : List (Fin 13)} {f g : Fin 13 → Digit} (h : ∀ l ∈ ls, f l = g l) :
    eventOf s ls f = eventOf s ls g := by
  unfold eventOf
  rw [List.flatMap_congr fun l hl => by rw [h l hl]]

theorem eventOf_kind (s : State) (ls : List (Fin 13)) (count : Fin 13 → Digit) : (eventOf s ls count).kind = .event := rfl

/-- R132: the CAUGHT lines of an EVENT built when the lines `first` have moved. -/
def caughtAfter (b : LineBlock) (move : Fin 13 → Catch → Catch) (first : List (Fin 13)) : List (Fin 13) :=
  ((List.finRange 13).filter fun l => (movedCatch b move first l).state = .caught).take 7

/-- A line's catch record when the lines `named` have moved and, once the lines `first` had, an EVENT of the lines `ls` was built. -/
def catchAfter (b : LineBlock) (move : Fin 13 → Catch → Catch) (named ls first : List (Fin 13)) (l : Fin 13) : Catch :=
  if l ∈ ls then
    if l ∈ named ∧ l ∉ first then move l { state := .reporting, c := (movedCatch b move first l).c, n := 0#4 }
    else { state := .reporting, c := (movedCatch b move first l).c, n := 0#4 }
  else movedCatch b move named l

/-- R132: what an EVENT build asks of the settings and of the insertion queue. -/
def MayBuildEvent (s : State) : Prop :=
  s.line.reportMode = .event ∧ s.adr ≠ Config.broadcast ∧ s.line.reportAddr ≠ s.adr ∧ s.inserted .event = 0

/-- R132, cause 1: one of these lines becomes CAUGHT by its move. -/
def SomeCaught (b : LineBlock) (move : Fin 13 → Catch → Catch) (named : List (Fin 13)) : Prop :=
  ∃ l ∈ named, (b.catchOf l).state ≠ .caught ∧ (move l (b.catchOf l)).state = .caught

/-- `t` is `s` after the lines `named` have moved, each once; `ls` are the lines of the EVENT built meanwhile, when the lines `first` had
moved, and there are none where none was built; `gone` says that the lines of an EVENT that is gone were among those moved. -/
structure AfterMoves (move : Fin 13 → Catch → Catch) (clears : Bool) (s t : State) (named ls first : List (Fin 13)) (gone : Prop) :
    Prop where
  first_named : ∀ l ∈ first, l ∈ named
  event_lines : ls ≠ [] → ls = caughtAfter s.line move first
  catchOf : ∀ l, t.line.catchOf l = catchAfter s.line move named ls first l
  lines : ∀ i : Fin 12, t.line.lines[i] =
    { s.line.lines[i] with retire := s.line.lines[i].retire && !(clears && decide (pinLine i ∈ named)) }
  rest : t.line = { s.line with
    lines := t.line.lines, catches := t.line.catches, eventSeq := if ls = [] then s.line.eventSeq else s.line.eventSeq + 1#4 }
  entered : t = if ls = [] then { s with line := t.line, choices := t.choices }
    else State.insert { s with line := t.line, choices := t.choices }
      (eventOf s ls fun l => (movedCatch s.line move first l).c)
  built : ls ≠ [] → MayBuildEvent s ∧ (SomeCaught s.line move named ∨ gone)

/-- R132: where no EVENT was built, though one might have been, none of the moves was a cause for one. -/
def NoCause (move : Fin 13 → Catch → Catch) (s : State) (named ls : List (Fin 13)) (gone : Prop) : Prop :=
  ls = [] → MayBuildEvent s →
    ¬SomeCaught s.line move named ∧ (gone → ∀ l, (movedCatch s.line move named l).state ≠ .caught)

/-- Before any line has moved, whatever free values are consumed. -/
theorem afterMoves_start (move : Fin 13 → Catch → Catch) (clears : Bool) {s t : State} (h : t = { s with choices := t.choices }) :
    AfterMoves move clears s t [] [] [] False := by
  have hline : t.line = s.line := by rw [h]
  refine ⟨nofun, fun h => absurd rfl h, fun l => ?_, fun i => ?_, by rw [hline]; rfl, ?_, fun h => absurd rfl h⟩
  · simp [catchAfter, movedCatch, hline]
  · simp [hline]
  · rw [if_pos rfl, hline]; exact h

theorem noCause_start (move : Fin 13 → Catch → Catch) (s : State) : NoCause move s [] [] False :=
  fun _ _ => ⟨fun ⟨_, hl, _⟩ => absurd hl List.not_mem_nil, nofun⟩

section

variable {move : Fin 13 → Catch → Catch} {clears : Bool} {s t : State} {named ls first : List (Fin 13)} {gone : Prop}

theorem AfterMoves.frame (h : AfterMoves move clears s t named ls first gone) :
    t.adr = s.adr ∧ t.line.reportMode = s.line.reportMode ∧ t.line.reportAddr = s.line.reportAddr := by
  refine ⟨?_, by rw [h.rest], by rw [h.rest]⟩
  have he := h.entered
  by_cases hls : ls = []
  · rw [if_pos hls] at he; rw [he]
  · rw [if_neg hls] at he; rw [he]; simp

theorem AfterMoves.inserted (h : AfterMoves move clears s t named ls first gone) :
    t.inserted .event = if ls = [] then s.inserted .event else 1 := by
  have he := h.entered
  by_cases hls : ls = []
  · rw [if_pos hls] at he
    rw [he, if_pos hls]
    rfl
  · rw [if_neg hls] at he
    have hnone : s.inserted .event = 0 := (h.built hls).1.2.2.2
    rw [he, if_neg hls, inserted_insert_eq, if_pos (eventOf_kind _ _ _)]
    show s.inserted .event + 1 = 1
    rw [hnone]

/-- R132: while an EVENT is held none is built. -/
theorem AfterMoves.not_due (h : AfterMoves move clears s t named ls first gone) (hls : ls ≠ []) : t.eventDue = false := by
  have hone := h.inserted
  rw [if_neg hls] at hone
  simp [State.eventDue, hone]

/-- One more line moves. -/
theorem AfterMoves.line {f : LineBlock → Fin 13 → LineBlock} {mv : LineBlock → Fin 13 → Catch → Catch} (hf : MovesBy f mv clears)
    (h : AfterMoves (mv s.line) clears s t named ls first gone) {l : Fin 13} (hl : l ∉ named) :
    AfterMoves (mv s.line) clears s (t.setLines (f t.line l)) (named ++ [l]) ls first gone := by
  have hlfirst : l ∉ first := fun hm => hl (h.first_named l hm)
  have hretire : t.line.retire l = s.line.retire l := by
    rcases pinLine_or_pseudoLine l with ⟨i, rfl⟩ | rfl
    · rw [retire_pinLine, retire_pinLine, h.lines]; simp [hl]
    · rfl
  have hcatches : t.line.catches_ l = s.line.catches_ l := by
    rcases pinLine_or_pseudoLine l with ⟨i, rfl⟩ | rfl
    · rw [catches_pinLine, catches_pinLine, h.lines]
    · rfl
  refine ⟨fun m hm => List.mem_append_left _ (h.first_named m hm), h.event_lines, fun m => ?_, fun i => ?_, ?_, ?_, fun hne => ?_⟩
  · show (f t.line l).catchOf m = _
    rw [hf.catchOf, h.catchOf, hf.looks t.line s.line l hretire hcatches]
    by_cases hm : m = l
    · subst hm
      by_cases hls : m ∈ ls <;> simp [catchAfter, movedCatch, hl, hls, hlfirst]
    · rw [if_neg hm, h.catchOf]
      simp [catchAfter, movedCatch, hm]
  · show (f t.line l).lines[i] = _
    rw [hf.lines, h.lines]
    by_cases hi : pinLine i = l
    · cases clears <;> simp [hi]
    · simp [hi]
  · show f t.line l = _
    have hr := hf.rest t.line l
    rw [State.setLines_line]
    generalize f t.line l = b at hr ⊢
    refine hr.trans ?_
    rw [h.rest]
  · have he := h.entered
    generalize f t.line l = b
    by_cases hls : ls = []
    · rw [if_pos hls] at he ⊢
      conv_lhs => rw [he]
      rfl
    · rw [if_neg hls] at he ⊢
      conv_lhs => rw [he]
      rw [setLines_insert]
      rfl
  · obtain ⟨hmay, hcause⟩ := h.built hne
    exact ⟨hmay, hcause.imp_left fun ⟨m, hm, hc⟩ => ⟨m, List.mem_append_left _ hm, hc⟩⟩

/-- The lines of a group move. -/
theorem AfterMoves.group {f : LineBlock → Fin 13 → LineBlock} {mv : LineBlock → Fin 13 → Catch → Catch} (hf : MovesBy f mv clears)
    (h : AfterMoves (mv s.line) clears s t named ls first gone) {ms : List (Fin 13)} (hms : (named ++ ms).Nodup) :
    AfterMoves (mv s.line) clears s (t.moveGroup f ms) (named ++ ms) ls first gone := by
  induction ms generalizing t named with
  | nil => simpa [State.moveGroup, State.setLines] using h
  | cons l ms ih =>
    rw [List.append_cons] at hms ⊢
    have hl : l ∉ named := by
      have := List.nodup_append'.mp (List.nodup_append'.mp hms).1
      exact fun hm => this.2.2 hm (List.mem_singleton_self l)
    exact ih (h.line hf hl) hms

/-- R132: an EVENT is built, the first of the step. -/
theorem AfterMoves.build (h : AfterMoves move clears s t named [] first gone) (hdue : t.eventDue = true)
    (hcause : SomeCaught s.line move named ∨ gone) :
    AfterMoves move clears s t.buildEvent named t.line.eventLines named gone := by
  obtain ⟨hadr, hmode, hreport⟩ := h.frame
  have hcatch (l : Fin 13) : t.line.catchOf l = movedCatch s.line move named l := by simpa [catchAfter] using h.catchOf l
  have hlines : t.line.eventLines = caughtAfter s.line move named := by
    unfold LineBlock.eventLines LineBlock.caughtLines caughtAfter
    simp only [hcatch]
  have hseq : t.line.eventSeq = s.line.eventSeq := by rw [h.rest]; rfl
  have hentered : t = { s with line := t.line, choices := t.choices } := by simpa using h.entered
  have hinserted : t.inserted .event = s.inserted .event := by simpa using h.inserted
  simp only [State.eventDue, State.addressed, Bool.and_eq_true, decide_eq_true_eq, hmode, hadr, hreport, hinserted] at hdue
  obtain ⟨⟨⟨⟨hevent, haddr⟩, hother⟩, hcaught⟩, hnone⟩ := hdue
  have hne : t.line.eventLines ≠ [] := by
    simpa [LineBlock.eventLines, List.isEmpty_iff] using hcaught
  have hheld : t.eventHeld = eventOf s t.line.eventLines fun l => (movedCatch s.line move named l).c := by
    unfold State.eventHeld eventOf
    rw [hadr, hreport, hseq]
    simp only [hcatch]
  refine ⟨fun _ h => h, fun _ => hlines, fun l => ?_, fun i => ?_, ?_, ?_, fun _ => ⟨⟨hevent, haddr, hother, hnone⟩, hcause⟩⟩
  · show (t.buildEvent).line.catchOf l = _
    have hl : (t.buildEvent).line.catchOf l = (t.line.record t.line.eventLines).catchOf l := by
      simp [State.buildEvent, LineBlock.catchOf]
    rw [hl, LineBlock.catchOf_record, hcatch]
    by_cases hm : l ∈ t.line.eventLines
    · simp only [catchAfter, hm, if_true]
      rw [if_neg fun hm => hm.2 hm.1]
      rfl
    · simp [catchAfter, hm]
  · have hl : (t.buildEvent).line.lines = t.line.lines := by simp [State.buildEvent]
    rw [hl, h.lines]
  · rw [if_neg hne]
    have hb : (t.buildEvent).line = { t.line with catches := (t.buildEvent).line.catches, eventSeq := s.line.eventSeq + 1#4 } := by
      rw [← hseq]
      simp only [State.buildEvent, State.insert_line, State.setLines_line]
      rw [record_eq]
    have hl : (t.buildEvent).line.lines = t.line.lines := by simp [State.buildEvent]
    rw [hl]
    generalize (t.buildEvent).line = b at hb ⊢
    refine hb.trans ?_
    rw [h.rest]
  · rw [if_neg hne, ← hheld]
    have hchoices : (t.buildEvent).choices = t.choices := by simp [State.buildEvent]
    have hline : (t.buildEvent).line = { t.line.record t.line.eventLines with eventSeq := t.line.eventSeq + 1#4 } := by
      simp [State.buildEvent]
    rw [hchoices, hline]
    show (t.setLines { t.line.record t.line.eventLines with eventSeq := t.line.eventSeq + 1#4 }).insert t.eventHeld = _
    generalize t.eventHeld = x
    generalize ({ t.line.record t.line.eventLines with eventSeq := t.line.eventSeq + 1#4 } : LineBlock) = b
    conv_lhs => rw [hentered]
    rfl

theorem becameCaught_iff (ms : List (Fin 13)) (before after : LineBlock) :
    becameCaught ms before after = true ↔ ∃ l ∈ ms, (before.catchOf l).state ≠ .caught ∧ (after.catchOf l).state = .caught := by
  simp [becameCaught]

/-- R132: one group moves, and the conditions of an EVENT are examined where it is a cause. -/
theorem AfterMoves.examine {f : LineBlock → Fin 13 → LineBlock} {mv : LineBlock → Fin 13 → Catch → Catch} (hf : MovesBy f mv clears)
    (h : AfterMoves (mv s.line) clears s t named ls first gone) (hno : NoCause (mv s.line) s named ls gone) (g : LineGroup)
    (hg : (named ++ g.lines).Nodup) :
    ∃ ls' first', AfterMoves (mv s.line) clears s
        (if g.isCause t.line (t.moveGroup f g.lines).line then (t.moveGroup f g.lines).examineEvent else t.moveGroup f g.lines)
        (named ++ g.lines) ls' first' (gone ∨ g.eventGone = true) ∧
      NoCause (mv s.line) s (named ++ g.lines) ls' (gone ∨ g.eventGone = true) ∧
      (ls = [] → ls' ≠ [] → first' = named ++ g.lines) := by
  have hmoved := h.group hf hg
  generalize t.moveGroup f g.lines = u at hmoved ⊢
  have hweak {ls' first' : List (Fin 13)} {v : State} (hv : AfterMoves (mv s.line) clears s v (named ++ g.lines) ls' first' gone) :
      AfterMoves (mv s.line) clears s v (named ++ g.lines) ls' first' (gone ∨ g.eventGone = true) :=
    { hv with built := fun hne => (hv.built hne).imp_right (Or.imp_right .inl) }
  by_cases hls : ls = []
  · subst hls
    have hcatch (l : Fin 13) : u.line.catchOf l = movedCatch s.line (mv s.line) (named ++ g.lines) l := by
      simpa [catchAfter] using hmoved.catchOf l
    have hbefore {l : Fin 13} (hl : l ∈ g.lines) : t.line.catchOf l = s.line.catchOf l := by
      have hnot : l ∉ named := fun hm => (List.nodup_append'.mp hg).2.2 hm hl
      simpa [catchAfter, movedCatch, hnot] using h.catchOf l
    have hafter {l : Fin 13} (hl : l ∈ g.lines) : u.line.catchOf l = mv s.line l (s.line.catchOf l) := by
      rw [hcatch]; simp [movedCatch, hl]
    by_cases hcause : g.isCause t.line u.line = true
    · rw [if_pos hcause]
      have hsome : SomeCaught s.line (mv s.line) (named ++ g.lines) ∨ g.eventGone = true := by
        rcases Bool.or_eq_true _ _ |>.mp hcause with hgone | hcaught
        · exact .inr hgone
        · obtain ⟨l, hl, hnot, his⟩ := (becameCaught_iff _ _ _).mp hcaught
          rw [hbefore hl] at hnot
          rw [hafter hl] at his
          exact .inl ⟨l, List.mem_append_right _ hl, hnot, his⟩
      unfold State.examineEvent
      by_cases hdue : u.eventDue = true
      · rw [if_pos hdue]
        refine ⟨_, _, AfterMoves.build (hweak hmoved) hdue (hsome.imp_right .inr), fun he => ?_, fun _ _ => rfl⟩
        have hne : u.line.caughtLines ≠ [] := by simp_all [State.eventDue]
        exact absurd he (by simpa [LineBlock.eventLines] using hne)
      · rw [if_neg hdue]
        refine ⟨[], first, hweak hmoved, fun _ hmay => ?_, fun _ hne => absurd rfl hne⟩
        have hnone (l : Fin 13) : (movedCatch s.line (mv s.line) (named ++ g.lines) l).state ≠ .caught := by
          intro hl
          obtain ⟨hmode, haddr, hother, hinserted⟩ := hmay
          obtain ⟨hadr, hmode', hreport⟩ := hmoved.frame
          have hu : u.inserted .event = 0 := by simpa [hinserted] using hmoved.inserted
          have hmem : l ∈ u.line.caughtLines := (mem_caughtLines _ _).mpr (by rw [hcatch]; exact hl)
          refine hdue ?_
          simp [State.eventDue, State.addressed, hmode', hadr, hreport, hmode, haddr, hother, hu, List.ne_nil_of_mem hmem]
        refine ⟨fun ⟨l, hl, _, his⟩ => hnone l ?_, fun _ => hnone⟩
        rw [movedCatch, if_pos hl]
        exact his
    · rw [if_neg hcause]
      refine ⟨[], first, hweak hmoved, fun _ hmay => ?_, fun _ hne => absurd rfl hne⟩
      obtain ⟨hnot, hgone⟩ := hno rfl hmay
      obtain ⟨hkept, hquiet⟩ : g.eventGone = false ∧ becameCaught g.lines t.line u.line = false := by
        simpa [LineGroup.isCause] using hcause
      have hstill {l : Fin 13} (hl : l ∈ g.lines) (hwas : (s.line.catchOf l).state ≠ .caught) :
          (mv s.line l (s.line.catchOf l)).state ≠ .caught := by
        intro his
        have hb : becameCaught g.lines t.line u.line = true :=
          (becameCaught_iff _ _ _).mpr ⟨l, hl, by rwa [hbefore hl], by rwa [hafter hl]⟩
        rw [hquiet] at hb
        cases hb
      refine ⟨?_, fun hgone' l => ?_⟩
      · rintro ⟨l, hl, hwas, his⟩
        rcases List.mem_append.mp hl with hl | hl
        · exact hnot ⟨l, hl, hwas, his⟩
        · exact hstill hl hwas his
      · have hg := hgone (hgone'.resolve_right (by simp [hkept]))
        by_cases hl : l ∈ g.lines
        · have hnamed : l ∉ named := fun hm => (List.nodup_append'.mp ‹_›).2.2 hm hl
          have hwas := hg l
          simp only [movedCatch, hnamed, if_false] at hwas
          simpa [movedCatch, hl] using hstill hl hwas
        · simpa [movedCatch, hl] using hg l
  · have hkeep : (if g.isCause t.line u.line then u.examineEvent else u) = u := by
      split
      · rw [State.examineEvent, hmoved.not_due hls]; rfl
      · rfl
    rw [hkeep]
    exact ⟨ls, first, hweak hmoved, fun he => absurd he hls, fun he => absurd he hls⟩

/-- The groups of a step move one after another. -/
theorem AfterMoves.groups {f : LineBlock → Fin 13 → LineBlock} {mv : LineBlock → Fin 13 → Catch → Catch} (hf : MovesBy f mv clears)
    (h : AfterMoves (mv s.line) clears s t named ls first gone) (hno : NoCause (mv s.line) s named ls gone) (gs : List LineGroup)
    (hgs : (named ++ gs.flatMap LineGroup.lines).Nodup) :
    ∃ ls' first', AfterMoves (mv s.line) clears s (t.moveEager f gs) (named ++ gs.flatMap LineGroup.lines) ls' first'
        (gone ∨ ∃ g ∈ gs, g.eventGone = true) ∧
      NoCause (mv s.line) s (named ++ gs.flatMap LineGroup.lines) ls' (gone ∨ ∃ g ∈ gs, g.eventGone = true) := by
  induction gs generalizing t named ls first gone with
  | nil => exact ⟨ls, first, by simpa [State.moveEager] using h, by simpa using hno⟩
  | cons g gs ih =>
    rw [List.flatMap_cons, ← List.append_assoc] at hgs ⊢
    obtain ⟨ls', first', hstep, hno', -⟩ := h.examine hf hno g (List.nodup_append'.mp hgs).1
    obtain ⟨ls'', first'', hrest, hno''⟩ := ih hstep hno' hgs
    have hgone : (gone ∨ ∃ x ∈ g :: gs, x.eventGone = true) ↔ (gone ∨ g.eventGone = true) ∨ ∃ x ∈ gs, x.eventGone = true := by
      simp [or_assoc]
    rw [hgone]
    exact ⟨ls'', first'', hrest, hno''⟩

/-! ### The lines of a step -/

theorem flatMap_join (gs : List LineGroup) (n : Nat) :
    (LineGroup.join (gs.take n) :: gs.drop n).flatMap LineGroup.lines = gs.flatMap LineGroup.lines := by
  rw [List.flatMap_cons, LineGroup.join, ← List.flatMap_append, List.take_append_drop]

theorem eventGone_join (gs : List LineGroup) (n : Nat) :
    (∃ g ∈ LineGroup.join (gs.take n) :: gs.drop n, g.eventGone = true) ↔ ∃ g ∈ gs, g.eventGone = true := by
  have hmem (g : LineGroup) : g ∈ gs ↔ g ∈ gs.take n ∨ g ∈ gs.drop n := by
    rw [← List.mem_append, List.take_append_drop]
  simp [LineGroup.join, hmem, or_and_right, exists_or]

/-- R132, in any order that the manual leaves open: the lines of a step move, each once. -/
theorem afterMoves_moveLines {f : LineBlock → Fin 13 → LineBlock} {mv : LineBlock → Fin 13 → Catch → Catch} (hf : MovesBy f mv clears)
    (s : State) (gs : List LineGroup) (hgs : (gs.flatMap LineGroup.lines).Nodup) :
    ∃ ls first, AfterMoves (mv s.line) clears s (s.moveLines f gs) (gs.flatMap LineGroup.lines) ls first
        (∃ g ∈ gs, g.eventGone = true) ∧
      NoCause (mv s.line) s (gs.flatMap LineGroup.lines) ls (∃ g ∈ gs, g.eventGone = true) := by
  unfold State.moveLines
  split
  · have h := AfterMoves.groups hf (afterMoves_start (mv s.line) clears (t := s.consume) rfl) (noCause_start _ s)
      (LineGroup.join (gs.take s.nextFree) :: gs.drop s.nextFree) (by rwa [List.nil_append, flatMap_join])
    simpa only [List.nil_append, flatMap_join, false_or, eventGone_join] using h
  · have h := AfterMoves.groups hf (afterMoves_start (mv s.line) clears (t := s) rfl) (noCause_start _ s) gs (by simpa using hgs)
    simpa only [List.nil_append, false_or] using h

/-- The lines of one group move. -/
theorem afterMoves_single {f : LineBlock → Fin 13 → LineBlock} {mv : LineBlock → Fin 13 → Catch → Catch} (hf : MovesBy f mv clears)
    (s : State) (g : LineGroup) (hg : g.lines.Nodup) :
    ∃ ls first, AfterMoves (mv s.line) clears s (s.moveLines f [g]) g.lines ls first (g.eventGone = true) ∧
      NoCause (mv s.line) s g.lines ls (g.eventGone = true) ∧ (ls ≠ [] → first = g.lines) := by
  have hone : s.moveLines f [g] =
      if g.isCause s.line (s.moveGroup f g.lines).line then (s.moveGroup f g.lines).examineEvent else s.moveGroup f g.lines := by
    simp [State.moveLines, State.moveEager]
  rw [hone]
  obtain ⟨ls, first, h, hno, hfirst⟩ :=
    (afterMoves_start (mv s.line) clears (t := s) rfl).examine hf (noCause_start _ s) g (by simpa using hg)
  exact ⟨ls, first, by simpa using h, by simpa using hno, by simpa using hfirst⟩

theorem movedCatch_of_first {b : LineBlock} {l : Fin 13} (h : l ∈ named → l ∈ first) (hsub : ∀ m ∈ first, m ∈ named) :
    movedCatch b move first l = movedCatch b move named l := by
  have hiff : l ∈ first ↔ l ∈ named := ⟨hsub l, h⟩
  simp only [movedCatch, hiff]

/-- What the lines' moves have done, in the statements' terms. Where the lines of an EVENT that is gone were among them, no line that
moved after the EVENT was built was CAUGHT before it; and a line that is reported keeps its count c when it moves once more. -/
theorem AfterMoves.linesMoved {gone' : Prop} (h : AfterMoves move clears s t named ls first gone) (hno : NoCause move s named ls gone)
    (hiff : gone' ↔ gone) (hgone : ls ≠ [] → gone → ∀ l ∈ named, l ∈ first ∨ (s.line.catchOf l).state ≠ .caught)
    (hkeep : ∀ l ∈ ls, l ∈ named → l ∉ first → ∀ k : Catch, k.state = .reporting → (move l k).c = k.c) :
    LinesMoved s t move named gone' ls ∧ EventEntered s t ls := by
  have hcount : ∀ l ∈ ls, (t.line.catchOf l).c = (movedCatch s.line move first l).c := by
    intro l hl
    rw [h.catchOf, catchAfter, if_pos hl]
    split
    · next hm => exact hkeep l hl hm.1 hm.2 _ rfl
    · rfl
  have htold : eventTold s t ls = eventOf s ls fun l => (movedCatch s.line move first l).c := by
    rw [eventTold_eq]; exact eventOf_congr s hcount
  have hentered := h.entered
  rw [← htold] at hentered
  have hrest : t.line = { s.line with lines := t.line.lines, catches := t.line.catches, eventSeq := t.line.eventSeq } ∧
      t.line.eventSeq = if ls = [] then s.line.eventSeq else s.line.eventSeq + 1#4 := by
    have hr := h.rest
    generalize t.line = b at hr ⊢
    have hseq : b.eventSeq = if ls = [] then s.line.eventSeq else s.line.eventSeq + 1#4 := by rw [hr]
    exact ⟨by rw [hseq]; exact hr, hseq⟩
  have hstands : ls ≠ [] → eventTold s t ls ∈ t.merge.insertion := fun hne => by
    rw [if_neg hne] at hentered
    rw [hentered]
    simp [eventTold]
  refine ⟨⟨hrest.1, ⟨fun hne => ?_, fun hc hnil => ?_⟩, hrest.2, h.inserted, hstands, first, h.first_named, h.event_lines, h.catchOf⟩, ?_⟩
  · obtain ⟨⟨hmode, haddr, hother, hnone⟩, hcause⟩ := h.built hne
    refine ⟨hmode, haddr, hother, hnone, hcause.imp_right fun hg => ⟨hiff.mpr hg, ?_⟩⟩
    obtain ⟨l, hl⟩ := List.exists_mem_of_ne_nil ls hne
    rw [h.event_lines hne, caughtAfter] at hl
    have hcaught : (movedCatch s.line move first l).state = .caught := by simpa using (List.mem_filter.mp (List.mem_of_mem_take hl)).2
    refine ⟨l, ?_⟩
    by_cases hfirst : l ∈ named → l ∈ first
    · rwa [movedCatch_of_first hfirst h.first_named] at hcaught
    · obtain ⟨hnamed, hnot⟩ := Classical.not_imp.mp hfirst
      rw [movedCatch, if_neg hnot] at hcaught
      exact absurd hcaught ((hgone hne hg l hnamed).resolve_left hnot)
  · obtain ⟨hmode, haddr, hother, hnone, hcause⟩ := hc
    obtain ⟨hnot, hquiet⟩ := hno hnil ⟨hmode, haddr, hother, hnone⟩
    rcases hcause with hsome | ⟨hg, l, hl⟩
    · exact hnot hsome
    · exact hquiet (hiff.mp hg) l hl
  · unfold EventEntered
    by_cases hls : ls = []
    · rw [if_pos hls] at hentered ⊢
      exact hentered
    · rw [if_neg hls] at hentered ⊢
      have hinsert := inserted_insert { s with line := t.line, choices := t.choices } (eventTold s t ls)
      rwa [← hentered] at hinsert

theorem AfterMoves.linesReleased (h : AfterMoves move true s t named ls first gone) : LinesReleased s t named := fun l => by
  simpa using h.lines l

theorem AfterMoves.lines_kept (h : AfterMoves move false s t named ls first gone) : t.line.lines = s.line.lines := by
  refine Vector.ext fun i hi => ?_
  simpa using h.lines ⟨i, hi⟩

end

/-- R122: an edge of a line that is REPORTING leaves its count c. -/
theorem edgeMove_keeps_count (b : LineBlock) (l : Fin 13) {k : Catch} (h : k.state = .reporting) : (edgeMove b l k).c = k.c := by
  unfold edgeMove
  rw [h]
  by_cases hr : b.retire l = true <;> simp [hr]

theorem flatMap_ofEdge (ls : List (Fin 13)) : (ls.map LineGroup.ofEdge).flatMap LineGroup.lines = ls := by
  rw [List.flatMap_map]
  exact List.flatMap_singleton' ls

/-- R122, R132: some lines have an edge. -/
theorem linesMoved_edges (s : State) {ls : List (Fin 13)} (hls : ls.Nodup) :
    ∃ event, LinesMoved s (s.moveLines LineBlock.edge (ls.map .ofEdge)) (edgeMove s.line) ls False event ∧
      EventEntered s (s.moveLines LineBlock.edge (ls.map .ofEdge)) event ∧
      (s.moveLines LineBlock.edge (ls.map .ofEdge)).line.lines = s.line.lines := by
  obtain ⟨event, first, h, hno⟩ := afterMoves_moveLines movesBy_edge s (ls.map .ofEdge) (by rwa [flatMap_ofEdge])
  rw [flatMap_ofEdge] at h hno
  have hnone : ¬∃ g ∈ ls.map LineGroup.ofEdge, g.eventGone = true := by simp [LineGroup.ofEdge]
  obtain ⟨hmoved, hentered⟩ := h.linesMoved hno (gone' := False) ⟨nofun, hnone⟩ (fun _ hg => absurd hg hnone)
    fun l _ _ _ k hk => edgeMove_keeps_count s.line l hk
  exact ⟨event, hmoved, hentered, h.lines_kept⟩

/-- R124, R126, R132: the lines that a departed frame names have moved. -/
theorem linesMoved_departure (s : State) {ls : List (Fin 13)} (hls : ls.Nodup) (gone : Bool) :
    ∃ event, LinesMoved s (s.moveLines LineBlock.departure [⟨ls, gone⟩]) (departureMove s.line) ls (gone = true) event ∧
      EventEntered s (s.moveLines LineBlock.departure [⟨ls, gone⟩]) event ∧
      LinesReleased s (s.moveLines LineBlock.departure [⟨ls, gone⟩]) ls := by
  obtain ⟨event, first, h, hno, hfirst⟩ := afterMoves_single movesBy_departure s ⟨ls, gone⟩ hls
  obtain ⟨hmoved, hentered⟩ := h.linesMoved hno Iff.rfl (fun hne _ l hl => .inl (by rw [hfirst hne]; exact hl))
    fun l hl hm hnot => absurd (by rw [hfirst (List.ne_nil_of_mem hl)]; exact hm) hnot
  exact ⟨event, hmoved, hentered, h.linesReleased⟩

theorem reportGroups_lines (hs : List Held) : (reportGroups hs).flatMap LineGroup.lines = taggedLines hs := by
  induction hs with
  | nil => rfl
  | cons h hs ih =>
    obtain ⟨ds, tag⟩ := h
    cases tag <;> simp_all [reportGroups, taggedLines]

theorem reportGroups_eventGone (hs : List Held) :
    (∃ h ∈ hs, h.kind = .event ∧ ∃ x, h.tag = .report x) ↔ ∃ g ∈ reportGroups hs, g.eventGone = true := by
  induction hs with
  | nil => simp [reportGroups]
  | cons h hs ih =>
    obtain ⟨ds, tag⟩ := h
    cases tag <;> simp_all [reportGroups]

/-- R125, R126, R132: the lines that discarded frames name, which are REPORTING, have moved. -/
theorem linesMoved_discards (s : State) {lost : List Held} (hlost : (taggedLines lost).Nodup)
    (hreporting : ∀ l ∈ taggedLines lost, (s.line.catchOf l).state = .reporting) :
    ∃ event, recordsDiscarded s (s.discardReports lost) lost event ∧ EventEntered s (s.discardReports lost) event := by
  obtain ⟨event, first, h, hno⟩ := afterMoves_moveLines movesBy_discard s (reportGroups lost) (by rwa [reportGroups_lines])
  rw [reportGroups_lines] at h hno
  have hnot : ∀ l ∈ taggedLines lost, (s.line.catchOf l).state ≠ .caught := fun l hl => by rw [hreporting l hl]; simp
  obtain ⟨hmoved, hentered⟩ := h.linesMoved hno (reportGroups_eventGone lost) (fun _ _ l hl => .inr (hnot l hl)) fun l hl hm hfirst => by
    have hcaught := List.mem_of_mem_take (h.event_lines (List.ne_nil_of_mem hl) ▸ hl)
    simp only [movedCatch, List.mem_filter, List.mem_finRange, true_and, decide_eq_true_eq, hfirst, if_false] at hcaught
    exact absurd hcaught (hnot l hm)
  exact ⟨event, ⟨hmoved, h.linesReleased⟩, hentered⟩

/-- The moves of one group, and the examination that they cause. -/
theorem moveLines_single (f : LineBlock → Fin 13 → LineBlock) (g : LineGroup) (s : State) :
    s.moveLines f [g] =
      if g.isCause s.line (s.moveGroup f g.lines).line then (s.moveGroup f g.lines).examineEvent else s.moveGroup f g.lines := by
  simp [State.moveLines, State.moveEager]

/-- The moves of one group consume no free value. -/
theorem moveLines_single_choices (f : LineBlock → Fin 13 → LineBlock) (g : LineGroup) (s : State) :
    (s.moveLines f [g]).choices = s.choices := by
  have hexamine (u : State) : u.examineEvent.choices = u.choices := by
    unfold State.examineEvent
    split
    · simp [State.buildEvent]
    · rfl
  rw [moveLines_single]
  split
  · exact hexamine _
  · rfl

end Sys2Proof.Proofs

/-! ## Counters, latches, claims and BREAKs in the statements' terms (R28, R94, R128, R164, R167, R168) -/

namespace Sys2Proof.Proofs

open Sys2Proof Sys2Proof.Machine

/-- R168: a cause of a counter. -/
theorem counted_count (s : State) (c : Counter) : Counted s (s.count c) c := by
  refine ⟨fun d => ?_, rfl⟩
  rw [State.countOf_count]
  split
  · exact toNat_raiseCount _
  · rfl

@[simp] theorem latch_sup (s : State) (l : Latch) : (s.latch l).sup = (s.rawLatch l).sup := by
  obtain ⟨-, -, -, -, -, -, -, -, -, hsup, -⟩ := (eventEffect_latch s l).frame
  exact hsup

theorem rawLatch_latches_ne_zero (s : State) (l : Latch) : (s.rawLatch l).sup.latches ≠ 0#8 := by
  intro h
  have hset : (s.rawLatch l).sup.isSet l = true := by simp [State.isSet_rawLatch]
  rw [Supervision.isSet, h] at hset
  simp at hset

/-- R128: a part without an address, or with a latch already set, tells its line unit nothing. -/
theorem latch_of_quiet {s : State} (h : s.adr = Config.broadcast ∨ s.sup.latches ≠ 0#8) (l : Latch) : s.latch l = s.rawLatch l := by
  unfold State.latch State.tellEdge
  refine if_neg fun hc => ?_
  simp only [State.addressed, State.rawLatch_adr, Bool.and_eq_true, decide_eq_true_eq] at hc
  exact h.elim hc.1.1 fun h => h hc.1.2

/-- R128: the first latch of an addressed part is an edge of the pseudo-line. -/
theorem latch_of_first {s : State} (haddr : s.adr ≠ Config.broadcast) (h : s.sup.latches = 0#8) (l : Latch) :
    s.latch l = (s.rawLatch l).pseudoEdge := by
  unfold State.latch State.tellEdge
  exact if_pos (by simp [State.addressed, haddr, h, rawLatch_latches_ne_zero])

/-- R128, R167: what a latch that is set changes. -/
theorem latched_latch (s : State) (l : Latch) : Latched s (s.latch l) l := by
  have hstate : { s with sup := (s.latch l).sup } = s.rawLatch l := by rw [latch_sup]; rfl
  refine ⟨fun m => by rw [latch_sup]; exact State.isSet_rawLatch s l m, by rw [latch_sup]; rfl, fun h => ?_, fun haddr h => ?_⟩
  · rw [hstate, latch_of_quiet h]
  · obtain ⟨ls, hmoved, hentered, hlines⟩ := linesMoved_edges (s.rawLatch l) (ls := [pseudoLine]) (List.nodup_singleton _)
    rw [hstate, latch_of_first haddr h]
    exact ⟨ls, hmoved, hentered, hlines, moveLines_single_choices _ _ _⟩

/-- R167, R168: a cause that is counted and sets a latch. -/
theorem reported_count_latch (s : State) (c : Counter) (l : Latch) : Reported s ((s.count c).latch l) c l :=
  ⟨s.count c, counted_count s c, latched_latch _ l⟩

theorem reported_malformedEvent (s : State) : Reported s s.malformedEvent .malformed .lineError := reported_count_latch _ _ _

theorem reported_overrun (s : State) (q : Target) : Reported s (s.overrun q) (overrunOf q).1 (overrunOf q).2 := by
  cases q <;> exact reported_count_latch _ _ _

/-- R28: a claim is accepted exactly where there is room. -/
theorem claim_iff_room (s : State) (q : Target) (n : Nat) : s.claim q n = true ↔ s.Room q n := by
  unfold State.claim
  rw [decide_eq_true_eq]
  cases q <;> exact Iff.rfl

/-- R28, R29: frames enter by one claim, or are lost as one overrun. -/
theorem claimed_of_claim (s : State) (q : Target) (hs : List Held) :
    Claimed s (if s.claim q hs.length then s.enter q hs else s.overrun q) q hs := by
  by_cases h : s.claim q hs.length = true
  · rw [if_pos h]
    exact .inl ⟨(claim_iff_room _ _ _).mp h, placed_enter s q hs⟩
  · rw [if_neg h]
    exact .inr ⟨fun hr => h ((claim_iff_room _ _ _).mpr hr), reported_overrun s q⟩

theorem claimed_placeAsIs (s : State) (q : Target) (ds : List Digit) :
    Claimed s (s.placeAsIs q ds) q [{ digits := ds, tag := .none }] := claimed_of_claim s q [Held.plain ds]

/-- R164: the conditions of a BREAK. -/
theorem breakDue_iff (s : State) : s.breakDue = true ↔
    s.adr ≠ Config.broadcast ∧ s.line.reportAddr ≠ s.adr ∧ s.inserted .breakReport = 0 ∧
      (s.sup.up ≠ s.sup.lastUp ∨ s.spur.state ≠ .disabled ∧ s.spur.state ≠ s.sup.lastSpur) := by
  simp [State.breakDue, State.addressed, State.unreported, and_assoc]

/-- R164: what the examination for a BREAK does. -/
theorem breakExamined_examineBreak (u : State) : breakExamined u u.examineBreak := by
  unfold breakExamined State.examineBreak
  by_cases h : u.breakDue = true
  · rw [if_pos ((breakDue_iff u).mp h), if_pos h]
    exact inserted_insert _ _
  · rw [if_neg fun hc => h ((breakDue_iff u).mpr hc), if_neg h]

end Sys2Proof.Proofs

/-! ## Units at a receiver (R8 to R11, R34) -/

namespace Sys2Proof.Proofs

open Sys2Proof Sys2Proof.Machine

theorem exec_receiveUnit_of_quiet {s : State} (h : s.Quiet) (p : Port) (u : LineUnit) :
    exec (.receiveUnit p u) s = .next (s.receive p u) :=
  State.settled_of_quiet h fun t => t.receive p u

theorem exec_takeFrame_of_quiet {s : State} (h : s.Quiet) (p : Port) (e : Ending) (ds : List Digit) :
    exec (.takeFrame p e ds) s = .next (s.arrive p e ds) :=
  State.settled_of_quiet h fun t => t.arrive p e ds

/-! ### Reports to the block that times the line -/

@[simp] theorem rx_noted (s : State) (p q : Port) (idle : Bool) : (s.noted p idle).rx q = s.rx q := by
  cases p <;> cases q <;> rfl

/-- R11: a unit other than IDLE is noted, and makes nothing due. -/
theorem report_of_not_idle (s : State) (p : Port) {u : UnitClass} (hu : u ≠ .idle) : s.report p u = s.noted p false := by
  cases p with
  | upstream =>
    simp only [State.report, restoreAfter, hu, if_false]
    by_cases hup : s.sup.up = .silent <;> simp [hup, State.noted, State.setSup, Config.restoreIdles]
  | spur =>
    simp only [State.report, restoreAfter, hu, if_false]
    by_cases hopen : s.spur.state = .opened <;> simp [hopen, State.noted, State.setSpur, Config.restoreIdles]

/-- R162: an IDLE from upstream is noted, and makes the restore of a SILENT part due with the 64th. -/
theorem report_idle_upstream (s : State) : s.report .upstream .idle = { s.noted .upstream true with
    due := s.due ++ if s.sup.up = .silent ∧ 64 ≤ s.sup.restoreCount + 1 then [.upstreamRestore] else [] } := by
  simp only [State.report, restoreAfter, if_true, Config.restoreIdles]
  by_cases hup : s.sup.up = .silent
  · by_cases hn : 64 ≤ s.sup.restoreCount + 1
    · have hmin : min (s.sup.restoreCount + 1) 64 = 64 := Nat.min_eq_right hn
      simp [hup, hn, State.noted, State.setSup, State.addDue, State.setDue]
    · have hmin : min (s.sup.restoreCount + 1) 64 ≠ 64 := by omega
      simp [hup, hn, State.noted, State.setSup]
  · simp [hup, State.noted, State.setSup]

/-- R106: an IDLE from the spur is noted, and makes the restore of an OPEN spur due with the 64th. -/
theorem report_idle_spur (s : State) : s.report .spur .idle = { s.noted .spur true with
    due := s.due ++ if s.spur.state = .opened ∧ 64 ≤ s.spur.restoreCount + 1 then [.spurRestore] else [] } := by
  simp only [State.report, restoreAfter, if_true, Config.restoreIdles]
  by_cases hopen : s.spur.state = .opened
  · by_cases hn : 64 ≤ s.spur.restoreCount + 1
    · have hmin : min (s.spur.restoreCount + 1) 64 = 64 := Nat.min_eq_right hn
      simp [hopen, hn, State.noted, State.setSpur, State.addDue, State.setDue]
    · have hmin : min (s.spur.restoreCount + 1) 64 ≠ 64 := by omega
      simp [hopen, hn, State.noted, State.setSpur]
  · simp [hopen, State.noted, State.setSpur]

@[simp] theorem rx_report (s : State) (p q : Port) (u : UnitClass) : (s.report p u).rx q = s.rx q := by
  by_cases hu : u = .idle
  · subst hu
    cases p with
    | upstream => rw [report_idle_upstream]; cases q <;> rfl
    | spur => rw [report_idle_spur]; cases q <;> rfl
  · rw [report_of_not_idle s p hu, rx_noted]

/-! ### Receivers that are not under way with a frame -/

theorem deaf_iff (s : State) (p : Port) : s.deaf p = true ↔ p = .spur ∧ s.spur.state = .disabled := by
  simp [State.deaf]

theorem receive_of_deaf {s : State} {p : Port} (h : s.deaf p = true) (u : LineUnit) : s.receive p u = s := by
  rw [State.receive, if_pos h]

/-- R8 to R10: a unit at a receiver in a state of assembly. -/
def unitAt (r : RxState) (s : State) (p : Port) (u : UnitClass) : State :=
  match r with
  | .hunt => s.huntUnit p u
  | .assemble => s.assembleUnit p u
  | .skip => s.skipUnit p u

/-- R8 to R10: what a receiver that listens makes of a unit. -/
theorem receive_of_hears {s : State} {p : Port} (h : p = .spur → s.spur.state ≠ .disabled) (u : LineUnit) :
    s.receive p u = unitAt (s.rx p).state (s.report p (classOf u)) p (classOf u) := by
  rw [State.receive, if_neg fun hd => h ((deaf_iff s p).mp hd).1 ((deaf_iff s p).mp hd).2]
  dsimp only
  rw [rx_report]
  cases (s.rx p).state <;> rfl

/-- R8, R10: START begins a frame. -/
theorem receive_start {s : State} {p : Port} (h : p = .spur → s.spur.state ≠ .disabled) (hrx : (s.rx p).state ≠ .assemble)
    {u : LineUnit} (hu : classOf u = .start) : s.receive p u = (s.noted p false).setRx p { state := .assemble, buffer := [] } := by
  rw [receive_of_hears h, hu, report_of_not_idle s p (by simp)]
  cases hst : (s.rx p).state with
  | assemble => exact absurd hst hrx
  | hunt | skip => rfl

/-- R8, R10, R34: an IDLE between frames. -/
theorem receive_idle {s : State} {p : Port} (h : p = .spur → s.spur.state ≠ .disabled) (hrx : (s.rx p).state ≠ .assemble)
    {u : LineUnit} (hu : classOf u = .idle) : s.receive p u = (s.report p .idle).idleBetween p := by
  rw [receive_of_hears h, hu]
  cases hst : (s.rx p).state with
  | assemble => exact absurd hst hrx
  | hunt | skip => rfl

/-- R10: any other unit in SKIP is dropped. -/
theorem receive_skipped {s : State} {p : Port} (h : p = .spur → s.spur.state ≠ .disabled) (hrx : (s.rx p).state = .skip)
    {u : LineUnit} (hstart : classOf u ≠ .start) (hidle : classOf u ≠ .idle) : s.receive p u = s.noted p false := by
  rw [receive_of_hears h, hrx, report_of_not_idle s p hidle]
  cases hu : classOf u with
  | start => exact absurd hu hstart
  | idle => exact absurd hu hidle
  | data | stop | stray => rfl

/-- R8: any other unit in HUNT is one malformed event. -/
theorem receive_hunted {s : State} {p : Port} (h : p = .spur → s.spur.state ≠ .disabled) (hrx : (s.rx p).state = .hunt)
    {u : LineUnit} (hstart : classOf u ≠ .start) (hidle : classOf u ≠ .idle) : s.receive p u = (s.noted p false).malformedEvent := by
  rw [receive_of_hears h, hrx, report_of_not_idle s p hidle]
  cases hu : classOf u with
  | start => exact absurd hu hstart
  | idle => exact absurd hu hidle
  | data | stop | stray => rfl

theorem raiseGap_eq (s : State) : s.raiseGap = { s with
    gapCount := min (s.gapCount + 1) 63
    due := s.due ++ if s.run.isOpen = true ∧ 4 * s.sup.gap.toNat ≤ min (s.gapCount + 1) 63 then [.runGapExpiry] else [] } := by
  unfold State.raiseGap
  dsimp only
  by_cases h : s.run.isOpen = true ∧ 4 * s.sup.gap.toNat ≤ min (s.gapCount + 1) 63
  · rw [if_pos (by simpa [Supervision.runGap, Config.gapLimit] using h), if_pos h]
    rfl
  · rw [if_neg (by simpa [Supervision.runGap, Config.gapLimit] using h), if_neg h]
    simp [State.setGapCount, Config.gapLimit]

/-- Settles O8: the class of the unit, and whether the receiver is in HUNT or SKIP. -/
theorem unitsBetweenFrames : Obligations.UnitsBetweenFrames := by
  intro s p u hquiet hrx
  rw [exec_receiveUnit_of_quiet hquiet]
  refine ⟨fun hp hd => ?_, fun hears => ⟨fun hu => ?_, fun hs hi hk => ?_, fun hs hi hk => ?_, fun hu hp => ?_, fun hu hp => ?_⟩⟩
  · rw [receive_of_deaf ((deaf_iff s p).mpr ⟨hp, hd⟩)]
  · rw [receive_start hears hrx hu]
  · rw [receive_skipped hears hk hs hi]
  · exact ⟨_, rfl, by rw [receive_hunted hears hk hs hi]; exact reported_malformedEvent _⟩
  · subst hp
    refine ⟨_, rfl, ?_⟩
    rw [receive_idle hears hrx hu, report_idle_upstream, State.idleBetween, raiseGap_eq, hquiet.2]
    refine ⟨rfl, ?_, ?_⟩
    · simp [State.noted]
    · simp [State.noted]
  · subst hp
    refine ⟨_, rfl, ?_⟩
    rw [receive_idle hears hrx hu, report_idle_spur, State.idleBetween, hquiet.2]
    exact ⟨rfl, by simp⟩

end Sys2Proof.Proofs

/-! ## Frames completed at a receiver (R9, R20 to R24, R33) -/

namespace Sys2Proof.Proofs

open Sys2Proof Sys2Proof.Machine

/-! ### Completion -/

/-- A receiver left as given after a completion: the gap count of the upstream input is 0 (R34). -/
def completedAt (s : State) (p : Port) (r : Receiver) : State :=
  match p with
  | .upstream => (s.setRx .upstream r).setGapCount 0
  | .spur => s.setRx .spur r

theorem completedAt_noted (s : State) (p : Port) (r : Receiver) : completedAt (s.noted p false) p r = s.arrived p r := by
  cases p <;> rfl

theorem noRun_eq (s : State) (p : Port) : s.noRun p = s.withoutRun p := by
  cases p <;> rfl

/-- R9, R20: with no commit pending after the taking, a completion is the taking. -/
theorem complete_of_no_commit {s : State} {p : Port} {e : Ending} {ds : List Digit} {r : Receiver}
    (h : ((completedAt s p r).take p e ds).mgmt.commit = none) : s.complete p e ds r = (completedAt s p r).take p e ds := by
  cases p with
  | upstream =>
    change (if (((s.setRx .upstream r).setGapCount 0).take .upstream e ds).mgmt.commit.isSome = true then _ else _) = _
    rw [if_neg (by rw [show ((s.setRx .upstream r).setGapCount 0) = completedAt s .upstream r from rfl, h]; nofun)]
    rfl
  | spur => rfl

theorem malformedEvent_commit (s : State) : s.malformedEvent.mgmt.commit = s.mgmt.commit :=
  (works_malformedEvent (d := .nothing) s).sameStates.commit

@[simp] theorem completedAt_commit (s : State) (p : Port) (r : Receiver) : (completedAt s p r).mgmt.commit = s.mgmt.commit := by
  cases p <;> rfl

@[simp] theorem withoutRun_commit (s : State) (p : Port) : (s.withoutRun p).mgmt.commit = s.mgmt.commit := by
  cases p <;> rfl

@[simp] theorem noted_mgmt (s : State) (p : Port) (idle : Bool) : (s.noted p idle).mgmt = s.mgmt := by
  cases p <;> rfl

@[simp] theorem arrived_mgmt (s : State) (p : Port) (r : Receiver) : (s.arrived p r).mgmt = s.mgmt := by
  cases p <;> rfl

/-- R21: a malformed frame is one malformed event. -/
theorem take_of_malformed {s : State} {p : Port} {e : Ending} {ds : List Digit} (h : MalformedFrame e ds) :
    s.take p e ds = (s.withoutRun p).malformedEvent := by
  rw [State.take, (classify_eq_malformed_iff e ds).mpr h, ← noRun_eq]

theorem complete_of_malformed {s : State} {p : Port} {e : Ending} {ds : List Digit} {r : Receiver} (hcommit : s.mgmt.commit = none)
    (h : MalformedFrame e ds) : s.complete p e ds r = ((completedAt s p r).withoutRun p).malformedEvent := by
  have htake := take_of_malformed (s := completedAt s p r) (p := p) h
  rw [← htake]
  refine complete_of_no_commit ?_
  rw [htake, malformedEvent_commit, withoutRun_commit, completedAt_commit, hcommit]

theorem malformedFrame_truncated (ds : List Digit) : MalformedFrame .truncated ds := .inl (by simp)

theorem malformedFrame_overlong (ds : List Digit) : MalformedFrame .overlong ds := .inl (by simp)

/-! ### Units inside a frame (R9) -/

/-- R9, R11: what a receiver in ASSEMBLE makes of a unit. -/
theorem receive_assembling {s : State} {p : Port} {ds : List Digit} (hears : p = .spur → s.spur.state ≠ .disabled)
    (hrx : s.rx p = { state := .assemble, buffer := ds }) (u : LineUnit) :
    s.receive p u = (s.report p (classOf u)).assembleUnit p (classOf u) := by
  rw [receive_of_hears hears, hrx, unitAt]

theorem assembleUnit_data {s : State} {p : Port} {ds : List Digit} (hrx : s.rx p = { state := .assemble, buffer := ds })
    (d : Digit) :
    s.assembleUnit p (.data d) =
      if ds.length < 24 then s.setRx p { state := .assemble, buffer := ds ++ [d] }
      else s.complete p .overlong ds { state := .skip, buffer := [] } := by
  simp only [State.assembleUnit, hrx, Config.bufferDigits]

/-- R9: any unit but a digit completes the frame under assembly. -/
theorem assembleUnit_other {s : State} {p : Port} {ds : List Digit} (hrx : s.rx p = { state := .assemble, buffer := ds }) :
    s.assembleUnit p .stop = s.complete p .ended ds .reset ∧ s.assembleUnit p .start = s.complete p .truncated ds .started ∧
    s.assembleUnit p .idle = s.complete p .truncated ds .reset ∧ s.assembleUnit p .stray = s.complete p .truncated ds .reset := by
  simp only [State.assembleUnit, hrx, and_self]

@[simp] theorem report_mgmt (s : State) (p : Port) (u : UnitClass) : (s.report p u).mgmt = s.mgmt := by
  by_cases hu : u = .idle
  · subst hu
    cases p with
    | upstream => rw [report_idle_upstream]; exact noted_mgmt s .upstream true
    | spur => rw [report_idle_spur]; exact noted_mgmt s .spur true
  · rw [report_of_not_idle s p hu, noted_mgmt]

/-- R9, R34: an IDLE that cuts a frame short, the frame dropped. -/
theorem completedAt_report_idle {s : State} (h : s.due = []) (p : Port) :
    (completedAt (s.report p .idle) p .reset).withoutRun p = idleCutShort s p := by
  cases p with
  | upstream => rw [report_idle_upstream, h]; rfl
  | spur => rw [report_idle_spur, h]; rfl

/-- Settles O9: the class of the unit, and whether the buffer has room. -/
theorem unitsInsideAFrame : Obligations.UnitsInsideAFrame := by
  intro s p u ds hquiet hrx hears
  have hrx' (v : UnitClass) : (s.report p v).rx p = { state := .assemble, buffer := ds } := by rw [rx_report, hrx]
  rw [exec_receiveUnit_of_quiet hquiet, receive_assembling hears hrx]
  refine ⟨fun d hu hroom => ?_, fun hcommit => ?_⟩
  · rw [hu, assembleUnit_data (hrx' _), if_pos hroom, report_of_not_idle s p (by simp)]
  have hlost {v : UnitClass} (hv : v ≠ .idle) {e : Ending} (he : MalformedFrame e ds) (r : Receiver) :
      Reported ((s.arrived p r).withoutRun p) ((s.report p v).complete p e ds r) .malformed .lineError := by
    rw [complete_of_malformed (by rw [report_mgmt, hcommit]) he, report_of_not_idle s p hv, completedAt_noted]
    exact reported_malformedEvent _
  refine ⟨fun d hu hfull => ⟨_, rfl, ?_⟩, fun hu => ⟨_, rfl, ?_⟩, fun hu => ⟨_, rfl, ?_⟩, fun hu => ⟨_, rfl, ?_⟩⟩
  · rw [hu, assembleUnit_data (hrx' _), if_neg (by omega)]
    exact hlost (by simp) (malformedFrame_overlong ds) _
  · rw [hu, (assembleUnit_other (hrx' _)).2.1]
    exact hlost (by simp) (malformedFrame_truncated ds) _
  · rw [hu, (assembleUnit_other (hrx' _)).2.2.2]
    exact hlost (by simp) (malformedFrame_truncated ds) _
  · rw [hu, (assembleUnit_other (hrx' _)).2.2.1, complete_of_malformed (by rw [report_mgmt, hcommit]) (malformedFrame_truncated ds),
      completedAt_report_idle hquiet.2]
    exact reported_malformedEvent _

/-! ### Whole frames at a receiver between frames -/

/-- The START of a whole frame at a receiver between frames is noted. -/
theorem startArrives_of_between {s : State} {p : Port} (h : (s.rx p).state ≠ .assemble) : s.startArrives p = s.noted p false := by
  unfold State.startArrives
  dsimp only
  rw [report_of_not_idle s p (by simp), rx_noted, if_neg h]

/-- A whole frame at a receiver between frames, with no commit pending after its taking, is noted and taken. -/
theorem arrive_of_between {s : State} {p : Port} {e : Ending} {ds : List Digit} (h : s.Between p)
    (hcommit : ((s.arrived p (afterEnding e)).take p e ds).mgmt.commit = none) :
    s.arrive p e ds = (s.arrived p (afterEnding e)).take p e ds := by
  obtain ⟨hrx, -, hears⟩ := h
  rw [State.arrive, if_neg fun hd => hears ((deaf_iff s p).mp hd).1 ((deaf_iff s p).mp hd).2, startArrives_of_between hrx,
    ← completedAt_noted]
  exact complete_of_no_commit (by rw [completedAt_noted, hcommit])

/-- Settles O12: the taking of a malformed frame is one malformed event, on what its arrival leaves. -/
theorem malformedFramesAreDropped : Obligations.MalformedFramesAreDropped := by
  intro s p e ds hquiet hbetween hbad
  have htake := take_of_malformed (s := s.arrived p (afterEnding e)) (p := p) hbad
  have hcommit : ((s.arrived p (afterEnding e)).take p e ds).mgmt.commit = none := by
    rw [htake, malformedEvent_commit, withoutRun_commit, arrived_mgmt, hbetween.2.1]
  refine ⟨_, exec_takeFrame_of_quiet hquiet p e ds, ?_⟩
  rw [arrive_of_between hbetween hcommit, htake]
  exact reported_malformedEvent _

/-- R22: stages 1 and 2 find a frame damaged that is well formed and whose check does not verify. -/
theorem classify_of_damaged {ds : List Digit} (h : ¬MalformedFrame .ended ds) (hcheck : checkVerifies ds = false) :
    classify .ended ds = .damaged := by
  cases hc : classify .ended ds with
  | malformed => exact absurd ((classify_eq_malformed_iff _ _).mp hc) h
  | damaged => rfl
  | intact f =>
    obtain ⟨-, -, hds⟩ := (intactExactlyWhenWellFormed .ended ds f).mp hc
    rw [hds, Frame.digits, checkVerifies_checkDigits] at hcheck
    cases hcheck

/-- Settles O13: the count and the latch come first, and then the policy that the part has. -/
theorem damagedFramesFollowThePolicy : Obligations.DamagedFramesFollowThePolicy := by
  intro s p ds hquiet hbetween hgood hcheck
  have hclass := classify_of_damaged hgood hcheck
  have htake : (s.arrived p .reset).take p .ended ds = (s.arrived p .reset).takeDamaged p ds := by rw [State.take, hclass]
  have hworks : Works .nothing (s.arrived p .reset) ((s.arrived p .reset).takeDamaged p ds) :=
    works_takeDamaged (sendable_of_damaged hclass) fun hp => by subst hp; exact hbetween.2.2 rfl
  have hcommit : ((s.arrived p .reset).take p .ended ds).mgmt.commit = none := by
    rw [htake, hworks.sameStates.commit, arrived_mgmt, hbetween.2.1]
  have hpolicy : ((((s.arrived p .reset).withoutRun p).count .damaged).latch .damageSeen).sup.policy = s.sup.policy := by
    rw [latch_sup]
    cases p <;> rfl
  refine ⟨(((s.arrived p .reset).withoutRun p).count .damaged).latch .damageSeen, _, exec_takeFrame_of_quiet hquiet p .ended ds,
    reported_count_latch _ _ _, fun hdrop => ?_, fun hforward => ?_⟩
  · rw [arrive_of_between hbetween hcommit]
    exact htake.trans (by simp only [State.takeDamaged, noRun_eq, hpolicy, hdrop])
  · rw [arrive_of_between hbetween hcommit]
    have hplaced : (s.arrived p .reset).take p .ended ds =
        ((((s.arrived p .reset).withoutRun p).count .damaged).latch .damageSeen).placeAsIs (asIsTarget p) ds :=
      htake.trans (by simp only [State.takeDamaged, noRun_eq, hpolicy, hforward])
    change Claimed _ ((s.arrived p .reset).take p .ended ds) _ _
    rw [hplaced]
    cases p <;> exact claimed_placeAsIs _ _ _

/-! ### Intact frames -/

theorem between_of_hears {s : State} {p : Port} (h : s.Hears p) : s.Between p := by
  obtain ⟨hrx, hcommit, hstate⟩ := h
  refine ⟨hrx, hcommit, fun hp => ?_⟩
  subst hp
  rw [show s.spur.state = .closed from hstate]
  nofun

/-- No restore hangs on a frame from this input: the upstream state is LIVE, or the spur CLOSED. -/
def Settled (s : State) (p : Port) : Prop :=
  match p with
  | .upstream => s.sup.up = .live
  | .spur => s.spur.state = .closed

theorem settled_of_hears {s : State} {p : Port} (h : s.Hears p) : Settled s p := h.2.2

/-- On an input without a restore to make, what a frame's arrival leaves is what `heard` says, once the run is closed. -/
theorem arrived_withoutRun {s : State} {p : Port} (hstate : Settled s p) : (s.arrived p .reset).withoutRun p = s.heard p := by
  cases p with
  | upstream =>
    have hup : s.sup.up ≠ .silent := by rw [show s.sup.up = .live from hstate]; nofun
    simp only [State.arrived, State.withoutRun, State.heard, State.noted, if_neg hup]
  | spur =>
    have hspur : s.spur.state ≠ .opened := by rw [show s.spur.state = .closed from hstate]; nofun
    simp only [State.arrived, State.withoutRun, State.heard, State.noted, if_neg hspur]

/-- A frame from an input without a restore to make restores nothing. -/
theorem restoreByFrame_arrived {s : State} {p : Port} (hstate : Settled s p) : (s.arrived p .reset).restoreByFrame p = s.arrived p .reset := by
  cases p with
  | upstream =>
    have hup : s.sup.up = .live := hstate
    simp [State.restoreByFrame, State.becomeLive, State.arrived, State.noted, hup]
  | spur =>
    have hspur : s.spur.state = .closed := hstate
    simp [State.restoreByFrame, State.spurCloses, State.arrived, State.noted, hspur]

@[simp] theorem arrived_own (s : State) (p : Port) (r : Receiver) : (s.arrived p r).own = s.own := by
  cases p <;> rfl

/-- R25, R33: a frame that is neither returned nor own goes to the main path, or, from the spur, to the spur return queue. -/
def sentOn (s : State) (p : Port) (f : Frame) : State :=
  match p with
  | .upstream => (s.arrived .upstream .reset).mainPath f
  | .spur => (s.heard .spur).placeAsIs .spurReturn f.digits

/-- R23, R24: what becomes of an intact frame on an input without a restore to make. -/
theorem take_intact {s : State} {p : Port} {f : Frame} (h : Settled s p) (hf : f.payload.length ≤ 15) :
    (s.arrived p .reset).take p .ended f.digits =
      if s.own = some f.src then (s.heard p).count .returned
      else if s.own = some f.dst then (s.heard p).ownFrame f
      else sentOn s p f := by
  rw [State.take, classify_digits f hf]
  change (s.arrived p .reset).takeIntact p f = _
  unfold State.takeIntact
  dsimp only
  rw [restoreByFrame_arrived h, arrived_own, noRun_eq, arrived_withoutRun h]
  cases p with
  | upstream => rfl
  | spur => rw [sentOn, show s.heard .spur = s.arrived .spur .reset from (arrived_withoutRun h).symm]

/-- An intact frame on an input that a part hears is taken at once, where no commit is pending after it. -/
theorem exec_takeFrame_intact {s t : State} {p : Port} {f : Frame} (hquiet : s.Quiet) (h : s.Hears p)
    (htake : (s.arrived p .reset).take p .ended f.digits = t) (hcommit : t.mgmt.commit = none) :
    exec (.takeFrame p .ended f.digits) s = .next t := by
  subst htake
  rw [exec_takeFrame_of_quiet hquiet, arrive_of_between (between_of_hears h) hcommit]
  rfl

@[simp] theorem count_commit (s : State) (c : Counter) : (s.count c).mgmt.commit = s.mgmt.commit := rfl

theorem own_eq_some_iff (s : State) (a : Addr) : s.own = some a ↔ s.adr ≠ Config.broadcast ∧ s.adr = a := by
  by_cases h : s.adr = Config.broadcast <;> simp [State.own, State.addressed, h]

/-- R24: an own frame of a kind that no block takes is MISDIRECTED. -/
theorem ownFrame_misdirected {s : State} {f : Frame} (hwrite : f.kind ≠ 0x0#4) (hadjust : f.kind ≠ 0x1#4) (hread : f.kind ≠ 0x2#4)
    (hmgmt : f.kind ≠ 0x8#4) : s.ownFrame f = s.count .misdirected := by
  have hkind : ∀ k : Digit, k ≠ 0x0#4 → k ≠ 0x1#4 → k ≠ 0x2#4 → k ≠ 0x8#4 →
      kindOf k ≠ .write ∧ kindOf k ≠ .adjust ∧ kindOf k ≠ .read ∧ kindOf k ≠ .mgmt := by decide
  obtain ⟨h0, h1, h2, h8⟩ := hkind f.kind hwrite hadjust hread hmgmt
  unfold State.ownFrame
  cases hk : kindOf f.kind with
  | write => exact absurd hk h0
  | adjust => exact absurd hk h1
  | read => exact absurd hk h2
  | mgmt => exact absurd hk h8
  | _ => rfl

/-- R24: an own WRITE, ADJUST or MGMT of length 0, and an own READ of fewer than two digits or of no cells. -/
theorem ownFrame_malformed {s : State} {f : Frame}
    (h : (f.kind = 0x0#4 ∨ f.kind = 0x1#4 ∨ f.kind = 0x8#4) ∧ f.payload = [] ∨
      f.kind = 0x2#4 ∧ (f.payload.length < 2 ∨ f.payload.getD 1 0#4 = 0#4)) : s.ownFrame f = s.malformedEvent := by
  rcases h with ⟨hkind, hempty⟩ | ⟨hkind, hshort⟩
  · rcases hkind with hk | hk | hk <;> simp [State.ownFrame, hk, hempty, kindOf]
  · obtain ⟨kind, dst, src, seq, payload⟩ := f
    subst hkind
    match payload, hshort with
    | [], _ | [_], _ => rfl
    | cell :: k :: masks, hs =>
      have hk : k = 0#4 := hs.resolve_left (by simp)
      subst hk
      rfl

/-- Settles O14: each of the three ends at a counter or at a malformed event. -/
theorem ownFramesThatStopAtIntake : Obligations.OwnFramesThatStopAtIntake := by
  intro s p f hquiet hears haddr hf
  have hcommit : (s.heard p).mgmt.commit = none := by rw [State.heard_mgmt, hears.2.1]
  have htake := take_intact (settled_of_hears hears) hf
  have hown (a : Addr) : s.own = some a ↔ s.adr = a := by rw [own_eq_some_iff]; exact and_iff_right haddr
  simp only [hown] at htake
  refine ⟨fun hsrc => ?_, fun hsrc hdst h0 h1 h2 h8 => ?_, fun hsrc hdst hbad => ?_⟩
  · rw [if_pos hsrc.symm] at htake
    exact ⟨_, exec_takeFrame_intact hquiet hears htake hcommit, counted_count _ _⟩
  · rw [if_neg (Ne.symm hsrc), if_pos hdst.symm, ownFrame_misdirected h0 h1 h2 h8] at htake
    exact ⟨_, exec_takeFrame_intact hquiet hears htake hcommit, counted_count _ _⟩
  · rw [if_neg (Ne.symm hsrc), if_pos hdst.symm, ownFrame_malformed hbad] at htake
    exact ⟨_, exec_takeFrame_intact hquiet hears htake (by rw [malformedEvent_commit, hcommit]), reported_malformedEvent _⟩

/-- R23, R24: a foreign frame is neither returned nor own. -/
theorem not_own_of_foreign {s : State} {f : Frame} (h : s.Foreign f) : s.own ≠ some f.src ∧ s.own ≠ some f.dst := by
  simp only [ne_eq, own_eq_some_iff]
  rcases h with h | ⟨hsrc, hdst⟩
  · exact ⟨fun k => k.1 h, fun k => k.1 h⟩
  · exact ⟨fun k => hsrc k.2.symm, fun k => hdst k.2.symm⟩

/-- R25, R26: a foreign frame from a LIVE upstream takes the main path. -/
theorem exec_takeFrame_mainPath {s : State} {f : Frame} (hquiet : s.Quiet) (hears : s.Hears .upstream) (hforeign : s.Foreign f)
    (hf : f.payload.length ≤ 15) :
    exec (.takeFrame .upstream .ended f.digits) s = .next ((s.arrived .upstream .reset).mainPath f) := by
  obtain ⟨hsrc, hdst⟩ := not_own_of_foreign hforeign
  have htake := take_intact (settled_of_hears hears) hf
  rw [if_neg hsrc, if_neg hdst] at htake
  have hworks : Works .nothing _ ((s.arrived .upstream .reset).mainPath f) := works_mainPath (s := s.arrived .upstream .reset) hears.2.2 hf
  exact exec_takeFrame_intact hquiet hears htake (by rw [hworks.sameStates.commit, arrived_mgmt, hears.2.1])

theorem kindOf_unassigned {k : Digit} (h : 12 ≤ k.toNat) : kindOf k = .unassigned := by
  have hkinds : ∀ k : Digit, 12 ≤ k.toNat → kindOf k = .unassigned := by decide
  exact hkinds k h

/-- R26: a frame of an unassigned kind closes the run and is placed as it is. -/
theorem mainPath_unassigned {s : State} {f : Frame} (h : kindOf f.kind = .unassigned) :
    s.mainPath f = s.closeRun.placeAsIs .transit f.digits := by
  simp only [State.mainPath, h]

/-- Settles O15: either claim is that of a frame placed as it is. -/
theorem uninterpretedFramesAreSentOnUnchanged : Obligations.UninterpretedFramesAreSentOnUnchanged := by
  intro s f hquiet hforeign hf
  obtain ⟨hsrc, hdst⟩ := not_own_of_foreign hforeign
  refine ⟨fun hears => ?_, fun hears hkind => ?_⟩
  · have htake := take_intact (settled_of_hears hears) hf
    rw [if_neg hsrc, if_neg hdst] at htake
    have hworks : Works .nothing (s.heard .spur) (sentOn s .spur f) :=
      works_placeAsIs (sendable_digits hf) fun _ => by
        rw [State.heard_spur_state, show s.spur.state = .closed from hears.2.2]
        nofun
    exact ⟨_, exec_takeFrame_intact hquiet hears htake (by rw [hworks.sameStates.commit, State.heard_mgmt, hears.2.1]),
      claimed_placeAsIs _ _ _⟩
  · refine ⟨_, exec_takeFrame_mainPath hquiet hears hforeign hf, ?_⟩
    rw [mainPath_unassigned (kindOf_unassigned hkind),
      show (s.arrived .upstream .reset).closeRun = s.heard .upstream from arrived_withoutRun (settled_of_hears hears)]
    exact claimed_placeAsIs _ _ _

end Sys2Proof.Proofs

/-! ## Frames as their units (R9, R14, R20; assumption log 9) -/

namespace Sys2Proof.Proofs

open Sys2Proof Sys2Proof.Machine

/-- A part that is under way with a frame on an input, nothing due, whose last unit there was no IDLE. -/
structure Assembling (s : State) (p : Port) (ds : List Digit) : Prop where
  quiet : s.Quiet
  rx : s.rx p = { state := .assemble, buffer := ds }
  hears : p = .spur → s.spur.state ≠ .disabled
  up : p = .upstream → s.sup.silenceCount = 0 ∧ (s.sup.up = .silent → s.sup.restoreCount = 0)
  spur : p = .spur → s.spur.watchCount = 0 ∧ (s.spur.state = .opened → s.spur.restoreCount = 0)

/-- A second unit that is no IDLE changes no count. -/
theorem Assembling.noted {s : State} {p : Port} {ds : List Digit} (h : Assembling s p ds) : s.noted p false = s := by
  cases p with
  | upstream =>
    obtain ⟨hsilence, hrestore⟩ := h.up rfl
    have hcount : (if s.sup.up = .silent then (if false = true then min (s.sup.restoreCount + 1) 64 else 0) else s.sup.restoreCount) =
        s.sup.restoreCount := by
      by_cases hup : s.sup.up = .silent
      · simp [hup, hrestore hup]
      · rw [if_neg hup]
    unfold State.noted
    dsimp only
    rw [hcount, ← hsilence]
  | spur =>
    obtain ⟨hwatch, hrestore⟩ := h.spur rfl
    have hcount : (if s.spur.state = .opened then (if false = true then min (s.spur.restoreCount + 1) 64 else 0)
        else s.spur.restoreCount) = s.spur.restoreCount := by
      by_cases hopen : s.spur.state = .opened
      · simp [hopen, hrestore hopen]
      · rw [if_neg hopen]
    unfold State.noted
    dsimp only
    rw [hcount, ← hwatch]

/-- A state that has the receivers, the counts and the states of another is under way with the same frame. -/
theorem Assembling.of_same {s t : State} {p : Port} {ds : List Digit} (h : Assembling s p ds) (hlow : t.resetLow = s.resetLow)
    (hdue : t.due = s.due) (hup : t.upRx = s.upRx) (hspur : t.spurRx = s.spurRx) (hspurUnit : t.spur = s.spur)
    (hsilence : t.sup.silenceCount = s.sup.silenceCount) (hrestore : t.sup.restoreCount = s.sup.restoreCount)
    (hstate : t.sup.up = s.sup.up) : Assembling t p ds where
  quiet := ⟨hlow.trans h.quiet.1, hdue.trans h.quiet.2⟩
  rx := by
    rw [← h.rx]
    cases p with
    | upstream => exact hup
    | spur => exact hspur
  hears := by rw [hspurUnit]; exact h.hears
  up := by rw [hsilence, hrestore, hstate]; exact h.up
  spur := by rw [hspurUnit]; exact h.spur

theorem Assembling.malformedEvent {s : State} {p : Port} {ds : List Digit} (h : Assembling s p ds) :
    Assembling s.malformedEvent p ds := by
  obtain ⟨hlow, -, -, hup, hspurRx, -, -, -, hspur, -, hdue, -⟩ := (eventEffect_latch (s.count .malformed) .lineError).frame
  refine h.of_same hlow hdue hup hspurRx hspur ?_ ?_ ?_ <;> simp [State.malformedEvent]

theorem Assembling.swap {s : State} {p : Port} {ds : List Digit} (h : Assembling s p ds) : Assembling s.swap p ds := by
  cases hc : s.mgmt.commit with
  | none => rwa [swap_of_no_commit hc]
  | some c =>
    rw [swap_of_commit hc]
    refine h.of_same ?_ ?_ ?_ ?_ ?_ ?_ ?_ ?_ <;> simp

theorem Assembling.withoutRun {s : State} {p : Port} {ds : List Digit} (h : Assembling s p ds) :
    Assembling (s.withoutRun p) p ds := by
  cases p <;> exact ⟨h.quiet, h.rx, h.hears, h.up, h.spur⟩

theorem settle_addDue_swap {s : State} (h : s.due = []) : (s.addDue .swap).settle = s.swap := by
  have hsame : (s.addDue .swap).setDue [] = s := by
    unfold State.addDue State.setDue
    dsimp only
    rw [← h]
  change ((s.addDue .swap).due.foldl State.perform ((s.addDue .swap).setDue [])) = s.swap
  rw [hsame, show (s.addDue .swap).due = [.swap] by simp [State.addDue, State.setDue, h]]
  rfl

/-- A START, noted, leaves a receiver that has begun a frame. -/
theorem assembling_started {s : State} {p : Port} (hquiet : s.Quiet) (hears : p = .spur → s.spur.state ≠ .disabled) :
    Assembling (completedAt (s.noted p false) p .started) p [] ∧ Assembling ((s.noted p false).setRx p .started) p [] := by
  cases p with
  | upstream =>
    have hcounts : (s.noted .upstream false).sup.silenceCount = 0 ∧
        ((s.noted .upstream false).sup.up = .silent → (s.noted .upstream false).sup.restoreCount = 0) :=
      ⟨rfl, fun hup => by simp [State.noted, show s.sup.up = .silent from hup]⟩
    exact ⟨⟨hquiet, rfl, nofun, fun _ => hcounts, nofun⟩, ⟨hquiet, rfl, nofun, fun _ => hcounts, nofun⟩⟩
  | spur =>
    have hcounts : (s.noted .spur false).spur.watchCount = 0 ∧
        ((s.noted .spur false).spur.state = .opened → (s.noted .spur false).spur.restoreCount = 0) :=
      ⟨rfl, fun hopen => by simp [State.noted, show s.spur.state = .opened from hopen]⟩
    exact ⟨⟨hquiet, rfl, fun _ => hears rfl, nofun, fun _ => hcounts⟩, ⟨hquiet, rfl, fun _ => hears rfl, nofun, fun _ => hcounts⟩⟩

theorem complete_truncated (s : State) (p : Port) (ds : List Digit) (r : Receiver) :
    s.complete p .truncated ds r =
      let t := ((completedAt s p r).withoutRun p).malformedEvent
      if p = .upstream ∧ s.mgmt.commit.isSome = true then t.addDue .swap else t := by
  have htake := take_of_malformed (s := completedAt s p r) (p := p) (malformedFrame_truncated ds)
  cases p with
  | upstream =>
    change (if ((completedAt s .upstream r).take .upstream .truncated ds).mgmt.commit.isSome = true then
      ((completedAt s .upstream r).take .upstream .truncated ds).addDue .swap else (completedAt s .upstream r).take .upstream .truncated ds) = _
    rw [htake, malformedEvent_commit, withoutRun_commit, completedAt_commit]
    simp only [true_and]
  | spur => exact htake

/-- The START of a frame, received: once what it makes due has been taken, the part is under way with a frame, and, but for the receiver,
is what the START of a whole frame leaves. -/
theorem receive_start_settled {s : State} {p : Port} (hquiet : s.Quiet) (hears : p = .spur → s.spur.state ≠ .disabled) :
    (s.receive p unitStart).resetLow = false ∧ Assembling (s.receive p unitStart).settle p [] ∧
      ∀ r, (s.receive p unitStart).settle.setRx p r = (s.startArrives p).setRx p r := by
  obtain ⟨hcut, hbegun⟩ := assembling_started hquiet hears
  by_cases hrx : (s.rx p).state = .assemble
  · have hreceive : s.receive p unitStart = (s.noted p false).complete p .truncated (s.rx p).buffer .started := by
      have hassemble : s.rx p = { state := .assemble, buffer := (s.rx p).buffer } := by rw [← hrx]
      rw [receive_assembling hears hassemble, show classOf unitStart = .start from rfl, report_of_not_idle s p (by simp),
        (assembleUnit_other (ds := (s.rx p).buffer) (by rw [rx_noted, ← hassemble])).2.1]
    have hstart : s.startArrives p = (s.receive p unitStart).settle := by
      rw [hreceive]
      unfold State.startArrives
      dsimp only
      rw [report_of_not_idle s p (by simp), rx_noted, if_pos hrx]
    rw [← and_assoc]
    refine ⟨?_, fun r => by rw [hstart]⟩
    have hlost := hcut.withoutRun.malformedEvent
    rw [hreceive, complete_truncated]
    dsimp only
    split
    · rw [settle_addDue_swap hlost.quiet.2]
      exact ⟨hlost.quiet.1, hlost.swap⟩
    · rw [State.settle_of_quiet hlost.quiet.2]
      exact ⟨hlost.quiet.1, hlost⟩
  · rw [receive_start hears hrx (by rfl : classOf unitStart = .start), startArrives_of_between hrx]
    change ((s.noted p false).setRx p .started).resetLow = false ∧ Assembling ((s.noted p false).setRx p .started).settle p [] ∧
      ∀ r, ((s.noted p false).setRx p .started).settle.setRx p r = _
    rw [State.settle_of_quiet hbegun.quiet.2]
    exact ⟨hbegun.quiet.1, hbegun, fun r => by cases p <;> rfl⟩

theorem complete_setRx (s : State) (p : Port) (r r' : Receiver) (e : Ending) (ds : List Digit) :
    (s.setRx p r).complete p e ds r' = s.complete p e ds r' := by
  cases p <;> rfl

/-- R9: the digits of a frame, and then its END, at a receiver that is under way with it. -/
theorem receiveAll_digits {s : State} {p : Port} (ds pre : List Digit) (h : Assembling s p pre) (hroom : pre.length + ds.length ≤ 24) :
    receiveAll s p (ds.map unitData ++ [unitEnd]) = .next (s.complete p .ended (pre ++ ds) .reset) := by
  induction ds generalizing s pre with
  | nil =>
    change (match exec (.receiveUnit p unitEnd) s with
      | .next t => receiveAll t p []
      | o => o) = _
    rw [exec_receiveUnit_of_quiet h.quiet, receive_assembling h.hears h.rx, show classOf unitEnd = .stop from rfl,
      report_of_not_idle s p (by simp), h.noted, (assembleUnit_other h.rx).1, List.append_nil]
    rfl
  | cons d ds ih =>
    rw [List.length_cons] at hroom
    change (match exec (.receiveUnit p (unitData d)) s with
      | .next t => receiveAll t p (ds.map unitData ++ [unitEnd])
      | o => o) = _
    rw [exec_receiveUnit_of_quiet h.quiet, receive_assembling h.hears h.rx, show classOf (unitData d) = .data d from rfl,
      report_of_not_idle s p (by simp), h.noted, assembleUnit_data h.rx, if_pos (by omega)]
    have hnext : Assembling (s.setRx p { state := .assemble, buffer := pre ++ [d] }) p (pre ++ [d]) := by
      cases p <;> exact ⟨h.quiet, rfl, h.hears, h.up, h.spur⟩
    refine (ih _ hnext (by rw [List.length_append, List.length_singleton]; omega)).trans ?_
    rw [complete_setRx, List.append_assoc, List.singleton_append]

/-- A DISABLED spur's receiver ignores every unit (R12). -/
theorem receiveAll_of_deaf {s : State} {p : Port} (hquiet : s.Quiet) (h : s.deaf p = true) (us : List LineUnit) :
    receiveAll s p us = .next s := by
  induction us with
  | nil => rfl
  | cons u us ih =>
    change (match exec (.receiveUnit p u) s with
      | .next t => receiveAll t p us
      | o => o) = _
    rw [exec_receiveUnit_of_quiet hquiet, receive_of_deaf h]
    exact ih

/-- What is due is taken before a command, whenever it was made due. -/
theorem receiveAll_settle {s : State} (p : Port) {u : LineUnit} (us : List LineUnit) (hlow : s.resetLow = false)
    (hquiet : s.settle.Quiet) : receiveAll s p (u :: us) = receiveAll s.settle p (u :: us) := by
  have hexec : exec (.receiveUnit p u) s = exec (.receiveUnit p u) s.settle := by
    rw [exec_receiveUnit_of_quiet hquiet]
    change s.answer (fun t => t.settle.receive p u) = _
    rw [State.answer, hlow]
    rfl
  change (match exec (.receiveUnit p u) s with
    | .next t => receiveAll t p us
    | o => o) = (match exec (.receiveUnit p u) s.settle with
    | .next t => receiveAll t p us
    | o => o)
  rw [hexec]

theorem receiveAll_frame {s : State} (p : Port) {ds : List Digit} (hquiet : s.Quiet) (hds : ds.length ≤ 24) :
    receiveAll s p (lineUnits ds) = exec (.takeFrame p .ended ds) s := by
  rw [exec_takeFrame_of_quiet hquiet, State.arrive]
  by_cases hdeaf : s.deaf p = true
  · rw [if_pos hdeaf, receiveAll_of_deaf hquiet hdeaf]
  rw [if_neg hdeaf]
  obtain ⟨hlow, hassembling, hsame⟩ := receive_start_settled (p := p) hquiet (enabled_of_not_deaf hdeaf)
  change (match exec (.receiveUnit p unitStart) s with
    | .next t => receiveAll t p (ds.map unitData ++ [unitEnd])
    | o => o) = _
  rw [exec_receiveUnit_of_quiet hquiet]
  change receiveAll (s.receive p unitStart) p (ds.map unitData ++ [unitEnd]) = _
  have hcons : ∃ u us, ds.map unitData ++ [unitEnd] = u :: us := by
    cases ds with
    | nil => exact ⟨_, _, rfl⟩
    | cons d ds => exact ⟨_, _, rfl⟩
  obtain ⟨u, us, hus⟩ := hcons
  rw [hus, receiveAll_settle p us hlow hassembling.quiet, ← hus, receiveAll_digits ds [] hassembling (by simpa using hds), List.nil_append,
    ← complete_setRx _ p .reset, hsame, complete_setRx]
  rfl

/-- Settles O10: the units one by one, and the own-frame rows by their common form. -/
theorem frameIsTakenAsItsUnits : Obligations.FrameIsTakenAsItsUnits := by
  refine ⟨fun s p ds hquiet hds => receiveAll_frame p hquiet hds, fun s c q kind payload h => ?_⟩
  rw [exec_eq_takeFrame h]
  have hadr : s.settle.adr = s.adr := (changes_settle s).adr
  change s.settled (fun t => t.arriveOwn q kind payload) = s.settled fun t => t.arrive q.port .ended
    (Frame.digits { kind := kind, dst := s.adr, src := q.src, seq := q.seq, payload := payload })
  unfold State.settled State.answer State.arriveOwn
  dsimp only
  rw [hadr]

end Sys2Proof.Proofs

/-! ## Frames that the main path maps and places (R26 to R31, R42, R46 to R53, R68 to R78, R166) -/

namespace Sys2Proof.Proofs

open Sys2Proof Sys2Proof.Machine

/-! ### The lookup -/

theorem selects_iff_named (selector : BitVec 2) (kind : Digit) : selects selector (kindOf kind) = true ↔ named selector kind := by
  unfold named
  revert selector kind
  decide

theorem kindOf_display_iff (k : Digit) : kindOf k = .display ↔ k = 0x4#4 := by
  revert k; decide

theorem kindOf_trace_iff (k : Digit) : kindOf k = .trace ↔ k = 0xA#4 := by
  revert k; decide

theorem kindOf_poll_iff (k : Digit) : kindOf k = .poll ↔ k = 0x6#4 := by
  revert k; decide

/-- R53: a selected SHOW asks for its translation exactly where its entry translates its kind. -/
theorem translates_of_named {e : Entry} {f : Frame} (h : named e.selector f.kind) :
    e.translates (kindOf f.kind) = decide (asksTranslation e f) := by
  have hselector : ∀ selector : BitVec 2, selects selector .display = true → selector ≠ 1#2 := by decide
  rw [Bool.eq_iff_iff, decide_eq_true_eq, Entry.translates, Bool.and_eq_true, decide_eq_true_eq, kindOf_display_iff]
  refine ⟨fun ⟨htranslate, hkind⟩ => ⟨hkind, htranslate, ?_⟩, fun ⟨hkind, htranslate, _⟩ => ⟨htranslate, hkind⟩⟩
  rw [← selects_iff_named, (kindOf_display_iff f.kind).mpr hkind] at h
  exact hselector _ h

/-- R53: a frame that its entry does not select asks for no translation. -/
theorem not_asksTranslation_of_not_named {e : Entry} {f : Frame} (h : ¬named e.selector f.kind) : ¬asksTranslation e f := by
  have hselector : ∀ selector : BitVec 2, selector ≠ 1#2 → selects selector .display = true := by decide
  rintro ⟨hkind, -, hne⟩
  rw [← selects_iff_named, (kindOf_display_iff f.kind).mpr hkind] at h
  exact h (hselector _ hne)

/-- A copy for a queue and a destination, translated where the frame asks for it (R52, R53). -/
def copyTo (e : Entry) (f : Frame) (q : Target) (dst : Addr) : Copy :=
  { target := q, dst := dst, translate := decide (asksTranslation e f) }

/-- R46, R52: a frame that its entry passes, or does not select. -/
theorem disposition_pass {e : Entry} {f : Frame} (spur : SpurState) (h : ¬named e.selector f.kind ∨ e.action = .pass) :
    e.disposition spur (kindOf f.kind) f.dst = .copies [copyTo e f .transit f.dst] := by
  by_cases hnamed : named e.selector f.kind
  · simp [Entry.disposition, (selects_iff_named _ _).mpr hnamed, h.resolve_left (not_not.mpr hnamed), translates_of_named hnamed, copyTo]
  · have hselects : selects e.selector (kindOf f.kind) = false := by
      simpa only [← selects_iff_named, Bool.not_eq_true] using hnamed
    simp only [Entry.disposition, hselects, Bool.not_false, if_true, copyTo, decide_eq_false (not_asksTranslation_of_not_named hnamed)]

/-- R46 to R51: the disposition of a frame that its entry selects. -/
theorem disposition_of_named {e : Entry} {f : Frame} (spur : SpurState) (h : named e.selector f.kind) :
    e.disposition spur (kindOf f.kind) f.dst =
      match e.action with
      | .pass => .copies [copyTo e f .transit f.dst]
      | .remap =>
        if e.inRange f.dst then .copies [copyTo e f .transit (e.target f.dst)]
        else if e.target f.dst = Config.broadcast ∨ e.spill = false ∨ spur ≠ .closed ∧ e.fallbackAbsorb = true then .absorbed
        else .copies [copyTo e f (if spur = .closed then .spurOut else .transit) (e.target f.dst)]
      | .divert =>
        if spur = .closed then .copies [copyTo e f .spurOut f.dst]
        else if e.fallbackAbsorb then .absorbed
        else .copies [copyTo e f .transit f.dst]
      | .mirror =>
        if spur = .closed then .copies [copyTo e f .transit f.dst, copyTo e f .spurOut f.dst]
        else .copies [copyTo e f .transit f.dst]
      | .absorb => .absorbed := by
  simp only [Entry.disposition, (selects_iff_named _ _).mpr h, Bool.not_true, Bool.false_eq_true, if_false, translates_of_named h, copyTo]
  cases e.action with
  | remap =>
    dsimp only
    by_cases hrange : e.inRange f.dst = true
    · simp [hrange]
    by_cases hbroadcast : e.target f.dst = Config.broadcast
    · simp [hrange, hbroadcast]
    by_cases hspill : e.spill = true
    · by_cases hspur : spur = .closed
      · simp [hrange, hbroadcast, hspill, hspur]
      · simp [hrange, hbroadcast, hspill, hspur]
    · simp [hrange, hbroadcast, hspill]
  | pass | divert | mirror | absorb => rfl

/-! ### Before the claims (R75, R77) -/

/-- R75, R77: what a SHOW that asks for its translation does before its claims. -/
def translationTold (s : State) (e : Entry) (f : Frame) : State :=
  if asksTranslation e f then (if f.payload = [] then s.malformedEvent else s.count .translated) else s

theorem translationNoted_told (s : State) (e : Entry) (f : Frame) : translationNoted s (translationTold s e f) e f := by
  unfold translationNoted translationTold
  by_cases hasks : asksTranslation e f
  · rw [if_pos hasks, if_pos hasks]
    by_cases hempty : f.payload = []
    · rw [if_pos hempty, if_pos hempty]
      exact reported_malformedEvent s
    · rw [if_neg hempty, if_neg hempty]
      exact counted_count s _
  · rw [if_neg hasks, if_neg hasks]

theorem works_translationTold (s : State) (e : Entry) (f : Frame) : Works .nothing s (translationTold s e f) := by
  unfold translationTold
  split
  · split
    · exact works_malformedEvent s
    · exact .of (.count s _ _)
  · exact .refl s

/-- A copy as it is claimed: a SHOW of length 0 is not translated (R75). -/
def claimedCopy (f : Frame) (c : Copy) : Copy := { c with translate := c.translate && !f.payload.isEmpty }

/-- R75, R77: what comes before the claims of copies of which each is translated where the frame asks for it. -/
theorem beforeClaims_eq (s : State) {e : Entry} {f : Frame} {cs : List Copy} (hne : cs ≠ [])
    (h : ∀ c ∈ cs, c.translate = decide (asksTranslation e f)) :
    s.beforeClaims f cs = (cs.map (claimedCopy f), translationTold s e f) := by
  by_cases hasks : asksTranslation e f
  · have hany : (cs.any fun c => c.translate) = true := by
      obtain ⟨c, rest, rfl⟩ := List.exists_cons_of_ne_nil hne
      simp [h c (by simp), hasks]
    by_cases hempty : f.payload = []
    · rw [translationTold, if_pos hasks, if_pos hempty]
      simp only [State.beforeClaims, hany, if_true, hempty, List.isEmpty_nil]
      refine congrArg (·, s.malformedEvent) (List.map_congr_left fun c _ => ?_)
      simp [claimedCopy, hempty]
    · have hnonempty : f.payload.isEmpty = false := by simpa [List.isEmpty_iff] using hempty
      rw [translationTold, if_pos hasks, if_neg hempty]
      simp only [State.beforeClaims, hany, if_true, hnonempty, Bool.false_eq_true, if_false]
      have hid : claimedCopy f = id := by
        funext c
        simp [claimedCopy, hnonempty]
      rw [hid, List.map_id]
  · have hnone : (cs.any fun c => c.translate) = false := by
      simp only [List.any_eq_false, Bool.not_eq_true]
      exact fun c hc => by rw [h c hc, decide_eq_false hasks]
    simp only [State.beforeClaims, hnone, Bool.false_eq_true, if_false, translationTold, hasks]
    refine congrArg (·, s) ?_
    conv_lhs => rw [← List.map_id cs]
    refine List.map_congr_left fun c hc => ?_
    have hflag : c.translate = false := by rw [h c hc, decide_eq_false hasks]
    obtain ⟨q, dst, flag⟩ := c
    dsimp only at hflag
    subst hflag
    rfl

theorem lookupAndPlace_absorbed {s : State} {f : Frame}
    (h : (s.map.activeBank.entry f.dst).disposition s.spur.state (kindOf f.kind) f.dst = .absorbed) :
    s.lookupAndPlace f = (false, s.count .mapAbsorbed) := by
  simp only [State.lookupAndPlace, h]

theorem lookupAndPlace_copies {s : State} {e : Entry} {f : Frame} {cs : List Copy} (he : e = s.map.activeBank.entry f.dst)
    (h : e.disposition s.spur.state (kindOf f.kind) f.dst = .copies cs) (hne : cs ≠ [])
    (hflags : ∀ c ∈ cs, c.translate = decide (asksTranslation e f)) :
    s.lookupAndPlace f =
      (translationTold s e f).placeCopies e s.hopRecord (cs.length = 1) f (cs.map (claimedCopy f)) := by
  subst he
  simp only [State.lookupAndPlace, h, beforeClaims_eq s hne hflags]

/-! ### One copy -/

/-- R68 to R74: the conversion unit's frames are those of section 4. -/
theorem convert_eq_patternFrames (b : Bank) (e : Entry) (f : Frame) : b.convert e f = patternFrames b e f := by
  unfold Bank.convert patternFrames
  cases f.payload with
  | nil => rfl
  | cons attr symbols =>
    have hpattern : b.symbolPattern e.pageNumber e.overlay (attr.getLsbD 0) = patternShown b e.page (attr.getLsbD 0) := by
      funext sym
      simp [Bank.symbolPattern, patternShown, Entry.overlay, Entry.pageNumber]
    dsimp only
    rw [hpattern]
    by_cases hlen : symbols.length ≤ 7
    · simp [hlen, patternFrame, List.flatMap_map]
    · simp [hlen, patternFrame, ← List.map_take, ← List.map_drop, List.flatMap_map, clearContinuation, setContinuation]

theorem hopRecord_eq (s : State) : s.hopRecord = hopFields s := by
  have hsome (x y : Option Addr) : (x.isSome || y.isSome) = decide (x ≠ none ∨ y ≠ none) := by
    cases x <;> cases y <;> rfl
  unfold State.hopRecord State.traceFlags hopFields
  rw [hsome]

theorem addUpTo15_one (n : Digit) : addUpTo15 n 1#4 = BitVec.ofNat 4 (min (n.toNat + 1) 15) := by
  revert n; decide

/-- R166: a TRACE copy with the part's hop record. -/
theorem traceWithHop_eq (s : State) (f : Frame) : traceWithHop s.hopRecord f = traceSent s f := by
  unfold traceWithHop traceSent
  rw [hopRecord_eq]
  cases f.payload with
  | nil => rfl
  | cons n records =>
    dsimp only
    rw [addUpTo15_one]
    by_cases h : (n :: records).length + 4 ≤ 15
    · rw [if_pos h, if_pos (by omega)]
    · rw [if_neg h, if_neg (by omega)]

/-- A copy that a REMAP entry has given the own address is placed nowhere (R31). -/
def StaysOff (s : State) (f : Frame) (dst : Addr) : Prop := dst ≠ f.dst ∧ s.own = some dst

theorem placeCopy_staysOff {u : State} {e : Entry} {hop : List Digit} {alone : Bool} {f : Frame} {c : Copy}
    (h : StaysOff u f c.dst) : u.placeCopy e hop alone f c = (false, u.count .mapAbsorbed) := by
  obtain ⟨hne, hown⟩ := h
  simp [State.placeCopy, hne, hown]

/-- R28, R29: frames are claimed for a queue. The answer says whether they were placed. -/
def claimFor (s : State) (q : Target) (hs : List Held) : Bool × State :=
  if s.claim q hs.length then (true, s.enter q hs) else (false, s.overrun q)

theorem claimed_claimFor (s : State) (q : Target) (hs : List Held) : Claimed s (claimFor s q hs).2 q hs := by
  rw [claimFor, apply_ite Prod.snd]
  exact claimed_of_claim s q hs

theorem claimFor_placed {s : State} {q : Target} {hs : List Held} (h : s.Room q hs.length) :
    claimFor s q hs = (true, s.enter q hs) := if_pos ((claim_iff_room _ _ _).mpr h)

theorem claimFor_lost {s : State} {q : Target} {hs : List Held} (h : ¬s.Room q hs.length) :
    claimFor s q hs = (false, s.overrun q) := if_neg fun hc => h ((claim_iff_room _ _ _).mp hc)

theorem sameStates_claimFor (s : State) (q : Target) (hs : List Held) : SameStates s (claimFor s q hs).2 := by
  by_cases h : s.Room q hs.length
  · rw [claimFor_placed h]
    constructor <;> simp
  · rw [claimFor_lost h]
    exact (works_overrun (d := .nothing) s q).sameStates

/-- R26 to R31, R166: a copy that carries no records is claimed for its queue as `sentAs` says. -/
theorem placeCopy_eq {s u : State} {e : Entry} {alone : Bool} {f : Frame} {q : Target} {dst : Addr} (hsame : SameStates s u)
    (hplace : ¬StaysOff s f dst) (hrecords : u.carriesRecords f alone (claimedCopy f (copyTo e f q dst)) = false) :
    u.placeCopy e s.hopRecord alone f (claimedCopy f (copyTo e f q dst)) = claimFor u q (sentAs s e { f with dst := dst }) := by
  have hoff : ((dst ≠ f.dst : Bool) && (u.own = some dst : Bool)) = false := by
    rw [hsame.own]
    simpa [StaysOff] using hplace
  have hflag : (claimedCopy f (copyTo e f q dst)).translate = decide (asksTranslation e f ∧ f.payload ≠ []) := by
    cases hpayload : f.payload <;> simp [claimedCopy, copyTo, hpayload]
  unfold State.placeCopy
  change (if ((dst ≠ f.dst : Bool) && (u.own = some dst : Bool)) = true then _ else
    if (claimedCopy f (copyTo e f q dst)).translate = true then
      (if u.claim q ((u.map.activeBank.convert e { f with dst := dst }).length) = true then
        (true, u.enter q ((u.map.activeBank.convert e { f with dst := dst }).map fun x => Held.plain x.digits))
      else (false, u.overrun q))
    else if u.claim q 1 = true then (true, u.enterCopy s.hopRecord alone f (claimedCopy f (copyTo e f q dst)))
    else (false, u.overrun q)) = _
  rw [hoff, if_neg (by simp), hflag]
  by_cases hasks : asksTranslation e f ∧ f.payload ≠ []
  · have hsent : sentAs s e { f with dst := dst } =
        (u.map.activeBank.convert e { f with dst := dst }).map fun x => Held.plain x.digits := by
      rw [sentAs, if_pos hasks.1, convert_eq_patternFrames, hsame.map]
      rfl
    rw [if_pos (decide_eq_true hasks), hsent, claimFor, List.length_map]
  · rw [if_neg (by simpa using hasks)]
    have hsent : ∃ h, sentAs s e { f with dst := dst } = [h] ∧
        u.enterCopy s.hopRecord alone f (claimedCopy f (copyTo e f q dst)) = u.enter q [h] := by
      have hentered (hnot : (u.addressed && kindOf f.kind = .trace && legalTrace f) = false) :
          u.enterCopy s.hopRecord alone f (claimedCopy f (copyTo e f q dst)) = u.enter q [untagged { f with dst := dst }] := by
        simp only [State.enterCopy, hrecords, Bool.false_and, Bool.false_eq_true, if_false, hnot]
        rfl
      by_cases hshow : asksTranslation e f
      · have hempty : f.payload = [] := by
          by_contra hne
          exact hasks ⟨hshow, hne⟩
        refine ⟨untagged { f with dst := dst }, ?_, hentered ?_⟩
        · rw [sentAs, if_pos hshow]
          simp [patternFrames, hempty]
        · have hkind : kindOf f.kind = .display := (kindOf_display_iff _).mpr hshow.1
          simp [hkind]
      · by_cases htrace : f.kind = 0xA#4 ∧ s.adr ≠ Config.broadcast ∧ f.payload.length ∈ [1, 5, 9, 13]
        · refine ⟨untagged (traceSent s { f with dst := dst }), ?_, ?_⟩
          · rw [sentAs, if_neg hshow, if_pos htrace]
          · obtain ⟨hkind, haddr, hlegal⟩ := htrace
            have hbranch : (u.addressed && kindOf f.kind = .trace && legalTrace f) = true := by
              have hlegal' : legalTrace f = true := by simpa [legalTrace] using hlegal
              simp [State.addressed, hsame.adr, haddr, (kindOf_trace_iff _).mpr hkind, hlegal']
            simp only [State.enterCopy, hrecords, Bool.false_and, Bool.false_eq_true, if_false, hbranch, if_true]
            rw [← traceWithHop_eq]
            rfl
        · refine ⟨untagged { f with dst := dst }, ?_, hentered ?_⟩
          · rw [sentAs, if_neg hshow, if_neg htrace]
          · rw [Bool.eq_false_iff]
            intro hall
            simp only [Bool.and_eq_true, decide_eq_true_eq, State.addressed, hsame.adr, kindOf_trace_iff] at hall
            obtain ⟨⟨haddr, hkind⟩, hlegal⟩ := hall
            exact htrace ⟨hkind, haddr, by simpa [legalTrace] using hlegal⟩
    obtain ⟨h, hsent, henter⟩ := hsent
    rw [hsent, henter]
    rfl

/-! ### One and two copies of a frame that carries no records -/

/-- R129: no copy of the frame carries records of the part's lines. -/
def CarriesNoRecords (s : State) (f : Frame) : Prop :=
  s.adr = Config.broadcast ∨ f.dst ≠ Config.broadcast ∨ f.kind ≠ 0x6#4 ∨ f.payload.length ∉ [0, 4, 8, 12]

theorem carriesRecords_eq_false {s u : State} {f : Frame} (hsame : SameStates s u) (h : CarriesNoRecords s f) (alone : Bool) (c : Copy) :
    u.carriesRecords f alone c = false := by
  rw [Bool.eq_false_iff]
  intro hall
  simp only [State.carriesRecords, Bool.and_eq_true, decide_eq_true_eq, State.addressed, hsame.adr, kindOf_poll_iff] at hall
  obtain ⟨⟨⟨⟨haddr, hdst⟩, hkind⟩, hlegal⟩, -⟩ := hall
  have hlegal' : f.payload.length ∈ [0, 4, 8, 12] := by simpa [legalPoll] using hlegal
  rcases h with h | h | h | h
  · exact haddr h
  · exact h hdst
  · exact h hkind
  · exact h hlegal'

/-- R26 to R30: the placement of a frame's only copy, and whether it was placed. -/
theorem lookupAndPlace_one_eq {s : State} {e : Entry} {f : Frame} {q : Target} {dst : Addr} (he : e = s.map.activeBank.entry f.dst)
    (h : e.disposition s.spur.state (kindOf f.kind) f.dst = .copies [copyTo e f q dst]) (hrecords : CarriesNoRecords s f)
    (hplace : ¬StaysOff s f dst) :
    s.lookupAndPlace f = claimFor (translationTold s e f) q (sentAs s e { f with dst := dst }) := by
  have hsame := (works_translationTold s e f).sameStates
  rw [lookupAndPlace_copies he h (by simp) (by simp [copyTo]),
    ← placeCopy_eq (e := e) (alone := true) hsame hplace (carriesRecords_eq_false hsame hrecords _ _)]
  simp only [State.placeCopies, List.map_cons, List.map_nil, List.length_singleton, decide_true, Bool.or_false]

/-- R26 to R31: the placement of a frame's only copy. -/
theorem lookupAndPlace_one {s : State} {e : Entry} {f : Frame} {q : Target} {dst : Addr} (he : e = s.map.activeBank.entry f.dst)
    (h : e.disposition s.spur.state (kindOf f.kind) f.dst = .copies [copyTo e f q dst]) (hrecords : CarriesNoRecords s f) :
    (¬StaysOff s f dst → Claimed (translationTold s e f) (s.lookupAndPlace f).2 q (sentAs s e { f with dst := dst })) ∧
    (StaysOff s f dst → Counted (translationTold s e f) (s.lookupAndPlace f).2 .mapAbsorbed) := by
  refine ⟨fun hplace => ?_, fun hoff => ?_⟩
  · rw [lookupAndPlace_one_eq he h hrecords hplace]
    exact claimed_claimFor _ q _
  · have hsame := (works_translationTold s e f).sameStates
    have hoff' : StaysOff (translationTold s e f) f (claimedCopy f (copyTo e f q dst)).dst := ⟨hoff.1, hsame.own.trans hoff.2⟩
    have hcount := placeCopy_staysOff (e := e) (hop := s.hopRecord) (alone := true) hoff'
    rw [lookupAndPlace_copies he h (by simp) (by simp [copyTo])]
    simp only [State.placeCopies, List.map_cons, List.map_nil, List.length_singleton, decide_true, hcount]
    exact counted_count _ _

/-- R30, R51: the placement of the two copies of a mirrored frame. -/
theorem lookupAndPlace_two_eq {s : State} {e : Entry} {f : Frame} (he : e = s.map.activeBank.entry f.dst)
    (h : e.disposition s.spur.state (kindOf f.kind) f.dst = .copies [copyTo e f .transit f.dst, copyTo e f .spurOut f.dst])
    (hrecords : CarriesNoRecords s f) :
    s.lookupAndPlace f =
      let first := claimFor (translationTold s e f) .transit (sentAs s e f)
      let second := claimFor first.2 .spurOut (sentAs s e f)
      (first.1 || second.1, second.2) := by
  have hsame := (works_translationTold s e f).sameStates
  have hplace : ¬StaysOff s f f.dst := fun hoff => hoff.1 rfl
  have hfirst := placeCopy_eq (e := e) (alone := false) (q := .transit) hsame hplace (carriesRecords_eq_false hsame hrecords _ _)
  have hafter := hsame.trans (sameStates_claimFor (translationTold s e f) .transit (sentAs s e f))
  have hsecond := placeCopy_eq (e := e) (alone := false) (q := .spurOut) hafter hplace (carriesRecords_eq_false hafter hrecords _ _)
  rw [lookupAndPlace_copies he h (by simp) (by simp [copyTo])]
  simp only [State.placeCopies, List.map_cons, List.map_nil, List.length_cons, List.length_nil]
  rw [show decide (0 + 1 + 1 = 1) = false from rfl, hfirst, hsecond, Bool.or_false]

end Sys2Proof.Proofs

/-! ## The address map and conversion, action by action (R46 to R53, R68 to R78, R86, R166) -/

namespace Sys2Proof.Proofs

open Sys2Proof Sys2Proof.Machine

/-! ### The run filter, for frames that belong to no open run (R83 to R86) -/

/-- R83: a candidate that does not belong to the open run is looked up and placed with the run closed. -/
theorem candidate_of_outside {s : State} {f : Frame} (h : outsideTheRun s f) (adjust : Bool) :
    s.candidate f adjust =
      (s.closeRun.lookupAndPlace f).2.afterPlacement (s.map.activeBank.entry f.dst) f adjust (s.closeRun.lookupAndPlace f).1 := by
  unfold State.candidate
  cases hpayload : f.payload with
  | nil => rfl
  | cons cell rest =>
    have hjudge : s.run.judge adjust f.dst cell = (.continue_, .closed) := by
      rcases h with h | ⟨hopen, hkey⟩
      · rw [h]
        rfl
      · have hkey' : ¬(s.run.dest = f.dst ∧ s.run.cell = cell) := by
          rintro ⟨hdest, hcell⟩
          refine hkey.elim (fun hne => hne hdest.symm) fun hne => hne ?_
          rw [hpayload, hcell]
          rfl
        have hkey'' : ((s.run.dest = f.dst : Bool) && (s.run.cell = cell : Bool)) = false := by
          simpa only [Bool.and_eq_false_iff, decide_eq_false_iff_not, not_and_or] using hkey'
        simp only [RunRecord.judge, hopen, if_true, hkey'', Bool.false_eq_true, if_false]
    dsimp only
    rw [hjudge]
    rfl

theorem broadcastEffect_of_other {s : State} {f : Frame} (h : s.adr = Config.broadcast ∨ f.dst ≠ Config.broadcast) (adjust : Bool) :
    s.broadcastEffect f adjust = s := by
  unfold State.broadcastEffect
  refine if_neg fun hc => ?_
  simp only [State.addressed, Bool.and_eq_true, decide_eq_true_eq] at hc
  exact h.elim hc.1 fun hne => hne hc.2

theorem openRun_of_not {s : State} {e : Entry} (h : s.sup.gap = 0#4 ∨ e.absorbRuns = false) (dest : Addr) (cell : Digit) :
    s.openRun e dest cell = s := by
  unfold State.openRun
  refine if_neg fun hc => ?_
  simp only [Bool.and_eq_true, decide_eq_true_eq] at hc
  obtain ⟨⟨⟨-, habsorb⟩, -⟩, hgap⟩ := hc
  rcases h with h | h
  · exact hgap h
  · rw [h] at habsorb
    cases habsorb

/-- A WRITE or ADJUST that opens no run and reaches no cell does nothing once it is placed. -/
theorem afterPlacement_of_mapped {s : State} {e : Entry} {f : Frame} {adjust : Bool}
    (hcells : s.adr = Config.broadcast ∨ f.dst ≠ Config.broadcast)
    (hrun : adjust = true ∨ f.payload = [] ∨ s.sup.gap = 0#4 ∨ e.absorbRuns = false) (placed : Bool) :
    s.afterPlacement e f adjust placed = s := by
  cases placed with
  | false => rfl
  | true =>
    change State.broadcastEffect _ f adjust = s
    cases hpayload : f.payload with
    | nil => exact broadcastEffect_of_other hcells adjust
    | cons cell rest =>
      cases adjust with
      | true => exact broadcastEffect_of_other hcells true
      | false =>
        have hrun' : s.sup.gap = 0#4 ∨ e.absorbRuns = false := by
          rcases hrun with h | h | h
          · cases h
          · rw [hpayload] at h
            cases h
          · exact h
        change (s.openRun e f.dst cell).broadcastEffect f false = s
        rw [openRun_of_not hrun', broadcastEffect_of_other hcells]

theorem outsideTheRun_arrived {s : State} {f : Frame} (h : outsideTheRun s f) : outsideTheRun (s.arrived .upstream .reset) f := h

/-- R25, R26: a frame that is only mapped closes the run, is looked up, and is placed. -/
theorem mainPath_of_onlyMapped {s : State} {f : Frame} (hf : f.payload.length ≤ 15) (h : onlyMapped s f) :
    s.mainPath f = (s.closeRun.lookupAndPlace f).2 := by
  obtain ⟨hkind, hcandidate, -⟩ := h
  have hassigned : kindOf f.kind ≠ .unassigned := by
    have hkinds : ∀ k : Digit, k.toNat ≤ 11 → kindOf k ≠ .unassigned := by decide
    exact hkinds _ hkind
  have hwrite : kindOf f.kind = .write ↔ f.kind = 0x0#4 := by
    generalize f.kind = k
    revert k; decide
  have hadjust : kindOf f.kind = .adjust ↔ f.kind = 0x1#4 := by
    generalize f.kind = k
    revert k; decide
  have hsame := (works_lookupAndPlace (d := .nothing) s.closeRun hf).sameStates
  have hcells (h : f.kind = 0x0#4 ∨ f.kind = 0x1#4) :
      (s.closeRun.lookupAndPlace f).2.adr = Config.broadcast ∨ f.dst ≠ Config.broadcast := by
    rw [hsame.adr]
    exact (hcandidate h).2.1
  unfold State.mainPath
  cases hk : kindOf f.kind with
  | unassigned => exact absurd hk hassigned
  | write =>
    obtain ⟨houtside, -, hrun⟩ := hcandidate (.inl (hwrite.mp hk))
    dsimp only
    rw [candidate_of_outside houtside, afterPlacement_of_mapped (hcells (.inl (hwrite.mp hk)))]
    rw [hsame.gap]
    refine .inr (hrun.resolve_left fun h => ?_)
    rw [hadjust.mpr h] at hk
    cases hk
  | adjust =>
    obtain ⟨houtside, -, -⟩ := hcandidate (.inr (hadjust.mp hk))
    dsimp only
    rw [candidate_of_outside houtside, afterPlacement_of_mapped (hcells (.inr (hadjust.mp hk))) (.inl rfl)]
  | _ => rfl

theorem exec_onlyMapped {s : State} {f : Frame} (hquiet : s.Quiet) (hears : s.Hears .upstream) (hforeign : s.Foreign f)
    (hf : f.payload.length ≤ 15) (h : onlyMapped s f) :
    exec (.takeFrame .upstream .ended f.digits) s = .next ((s.heard .upstream).lookupAndPlace f).2 := by
  have hmapped : onlyMapped (s.arrived .upstream .reset) f := h
  rw [exec_takeFrame_mainPath hquiet hears hforeign hf, mainPath_of_onlyMapped hf hmapped,
    show (s.arrived .upstream .reset).closeRun = s.heard .upstream from arrived_withoutRun (settled_of_hears hears)]

theorem carriesNoRecords_of_onlyMapped {s : State} {f : Frame} (h : onlyMapped s f) : CarriesNoRecords s f := by
  obtain ⟨-, -, hpoll⟩ := h
  by_cases hkind : f.kind = 0x6#4
  · exact (hpoll hkind).imp_right fun h => h.imp_right .inr
  · exact .inr (.inr (.inl hkind))

theorem carriesNoRecords_heard {s : State} {f : Frame} (h : onlyMapped s f) : CarriesNoRecords (s.heard .upstream) f :=
  carriesNoRecords_of_onlyMapped (s := s) h

theorem sentAs_heard (s : State) (e : Entry) (f : Frame) : sentAs (s.heard .upstream) e f = sentAs s e f := rfl

/-- A frame keeps its own destination, which is not the part's. -/
theorem not_staysOff_same (s : State) (f : Frame) : ¬StaysOff s f f.dst := fun h => h.1 rfl

/-! ### The actions -/

/-- Settles O16: the only copy of a frame that is passed, and the count of one that is absorbed. -/
theorem passAndAbsorbEntries : Obligations.PassAndAbsorbEntries := by
  intro s f e hquiet hears hforeign hf hmapped he
  have hexec := exec_onlyMapped hquiet hears hforeign hf hmapped
  refine ⟨fun hpass => ?_, fun hnamed habsorb => ⟨_, hexec, ?_⟩⟩
  · have hone := (lookupAndPlace_one (s := s.heard .upstream) he (disposition_pass _ hpass) (carriesNoRecords_heard hmapped)).1
      (not_staysOff_same _ f)
    exact ⟨_, _, hexec, translationNoted_told _ e f, hone⟩
  · subst he
    rw [lookupAndPlace_absorbed (by rw [State.heard_map, disposition_of_named _ hnamed, habsorb])]
    exact counted_count _ _

/-- R48: the column sum modulo 16. -/
theorem wrapped_target (e : Entry) (dst : Addr) :
    addrOf (rowOf dst ^^^ e.rowModifier.setWidth 4) (BitVec.ofInt 4 (((colOf dst).toNat : Int) + e.columnStep.toInt)) = e.target dst := by
  have hcolumn : ∀ a b : Digit, BitVec.ofInt 4 ((a.toNat : Int) + b.toInt) = a + b := by decide
  rw [hcolumn]
  rfl

theorem inRange_iff (e : Entry) (dst : Addr) :
    e.inRange dst = true ↔ 0 ≤ ((colOf dst).toNat : Int) + e.columnStep.toInt ∧ ((colOf dst).toNat : Int) + e.columnStep.toInt ≤ 15 := by
  rw [Entry.inRange, Bool.and_eq_true, decide_eq_true_eq, decide_eq_true_eq]
  rfl

/-- Settles O17: in range, absorbed, or spilled, each by its disposition. -/
theorem remapEntriesRewriteTheDestination : Obligations.RemapEntriesRewriteTheDestination := by
  intro s f hquiet hears hforeign hf hmapped hnamed hremap e sum new he hsum hnew
  rw [hsum, wrapped_target] at hnew
  subst hnew
  rw [← he] at hnamed hremap
  have hexec := exec_onlyMapped hquiet hears hforeign hf hmapped
  have hrange := inRange_iff e f.dst
  rw [← hsum] at hrange
  have hdisposition := disposition_of_named (f := f) s.spur.state hnamed
  rw [hremap] at hdisposition
  dsimp only at hdisposition
  have hone {q : Target} (h : e.disposition s.spur.state (kindOf f.kind) f.dst = .copies [copyTo e f q (e.target f.dst)]) :=
    lookupAndPlace_one (s := s.heard .upstream) he h (carriesNoRecords_heard hmapped)
  have hoff : s.adr ≠ Config.broadcast → e.target f.dst = s.adr → StaysOff (s.heard .upstream) f (e.target f.dst) := fun haddr hown =>
    ⟨fun hsame => not_own_of_foreign hforeign |>.2 ((own_eq_some_iff s _).mpr ⟨haddr, by rw [← hsame, hown]⟩),
      (own_eq_some_iff s _).mpr ⟨haddr, hown.symm⟩⟩
  have hon : s.adr = Config.broadcast ∨ e.target f.dst ≠ s.adr → ¬StaysOff (s.heard .upstream) f (e.target f.dst) := fun h hoff =>
    have hown := (own_eq_some_iff s _).mp hoff.2
    h.elim hown.1 fun hne => hne hown.2.symm
  refine ⟨_, _, hexec, translationNoted_told _ e f, fun h0 h15 hplace => ?_, fun h0 h15 haddr hown => ?_, fun hout => ?_⟩
  · rw [if_pos (hrange.mpr ⟨h0, h15⟩)] at hdisposition
    exact (hone hdisposition).1 (hon hplace)
  · rw [if_pos (hrange.mpr ⟨h0, h15⟩)] at hdisposition
    exact (hone hdisposition).2 (hoff haddr hown)
  have hnot : ¬e.inRange f.dst = true := fun h => by
    have := hrange.mp h
    omega
  rw [if_neg hnot] at hdisposition
  refine ⟨fun habsorb => ?_, fun hbroadcast hspill hspur => ?_⟩
  · have habsorbed : e.target f.dst = Config.broadcast ∨ e.spill = false ∨ s.spur.state ≠ .closed ∧ e.fallbackAbsorb = true :=
      habsorb.imp_right fun h => h.imp_right fun ⟨hopen, hfall⟩ => ⟨by rw [hopen]; nofun, hfall⟩
    rw [if_pos habsorbed, he] at hdisposition
    rw [lookupAndPlace_absorbed (s := s.heard .upstream) hdisposition]
    exact counted_count _ _
  · have hkept : ¬(e.target f.dst = Config.broadcast ∨ e.spill = false ∨ s.spur.state ≠ .closed ∧ e.fallbackAbsorb = true) := by
      rintro (h | h | ⟨hne, hfall⟩)
      · exact hbroadcast h
      · rw [hspill] at h
        cases h
      · rcases hspur with h | ⟨-, h⟩
        · exact hne h
        · rw [hfall] at h
          cases h
    rw [if_neg hkept] at hdisposition
    exact ⟨fun haddr hown => (hone hdisposition).2 (hoff haddr hown), fun hplace => (hone hdisposition).1 (hon hplace)⟩

/-- Settles O18: the one or two copies of each action under the spur state. -/
theorem divertAndMirrorEntries : Obligations.DivertAndMirrorEntries := by
  intro s f hquiet hears hforeign hf hmapped hnamed e he
  rw [← he] at hnamed
  have hexec := exec_onlyMapped hquiet hears hforeign hf hmapped
  have hrecords : CarriesNoRecords (s.heard .upstream) f := carriesNoRecords_heard hmapped
  have hdisposition := disposition_of_named (f := f) s.spur.state hnamed
  have hone {q : Target} (h : e.disposition s.spur.state (kindOf f.kind) f.dst = .copies [copyTo e f q f.dst]) :=
    (lookupAndPlace_one (s := s.heard .upstream) he h hrecords).1 (not_staysOff_same _ f)
  refine ⟨_, _, hexec, translationNoted_told _ e f, fun hdivert => ?_, fun hmirror => ?_⟩
  · rw [hdivert] at hdisposition
    refine ⟨fun hclosed => ?_, fun hopen hfall => ?_, fun hopen hfall => ?_⟩
    · exact hone (by simpa [hclosed] using hdisposition)
    · exact hone (by simpa [hopen, hfall] using hdisposition)
    · rw [lookupAndPlace_absorbed (by rw [State.heard_map, ← he]; simpa [hopen, hfall] using hdisposition)]
      exact counted_count _ _
  · rw [hmirror] at hdisposition
    refine ⟨fun hclosed => ?_, fun hopen => ?_⟩
    · rw [lookupAndPlace_two_eq (s := s.heard .upstream) he (by simpa [hclosed] using hdisposition) hrecords]
      exact ⟨_, claimed_claimFor _ _ _, claimed_claimFor _ _ _⟩
    · exact hone (by simpa [hopen] using hdisposition)

/-! ### SHOW and TRACE -/

theorem onlyMapped_of_kind {s : State} {f : Frame} (h11 : f.kind.toNat ≤ 11) (h0 : f.kind ≠ 0x0#4) (h1 : f.kind ≠ 0x1#4)
    (h6 : f.kind ≠ 0x6#4) : onlyMapped s f := ⟨h11, fun h => (h.elim h0 h1).elim, fun h => (h6 h).elim⟩

theorem onlyMapped_of_show {s : State} {f : Frame} (h : f.kind = 0x4#4) : onlyMapped s f := by
  refine onlyMapped_of_kind ?_ ?_ ?_ ?_ <;> rw [h] <;> decide

theorem named_of_show {selector : BitVec 2} {kind : Digit} (hkind : kind = 0x4#4) (hselector : selector ≠ 1#2) : named selector kind := by
  have hselects : ∀ x : BitVec 2, x ≠ 1#2 → selects x (kindOf 0x4#4) = true := by decide
  rw [← selects_iff_named, hkind]
  exact hselects _ hselector

/-- R68 to R72: a SHOW with an attribute that is translated and placed on the main loop, under a destination that is kept or written. -/
theorem show_converted {s : State} {f : Frame} {attr : Digit} {symbols : List Digit} {e : Entry} {new : Addr} (hquiet : s.Quiet)
    (hears : s.Hears .upstream) (hforeign : s.Foreign f) (hkind : f.kind = 0x4#4) (hpayload : f.payload = attr :: symbols)
    (hlen : symbols.length ≤ 14) (he : e = s.map.activeBank.entry f.dst) (hasks : asksTranslation e f)
    (hdisposition : e.disposition s.spur.state (kindOf f.kind) f.dst = .copies [copyTo e f .transit new])
    (hplace : ¬StaysOff (s.heard .upstream) f new) :
    ∃ u t, exec (.takeFrame .upstream .ended f.digits) s = .next t ∧ Counted (s.heard .upstream) u .translated ∧
      Claimed u t .transit ((patternFrames s.map.activeBank e { f with dst := new }).map untagged) := by
  have hmapped : onlyMapped s f := onlyMapped_of_show hkind
  have hf : f.payload.length ≤ 15 := by
    rw [hpayload, List.length_cons]
    omega
  have hone := (lookupAndPlace_one (s := s.heard .upstream) he hdisposition (carriesNoRecords_heard hmapped)).1 hplace
  have hnoted := translationNoted_told (s.heard .upstream) e f
  rw [translationNoted, if_pos hasks, if_neg (by rw [hpayload]; nofun)] at hnoted
  rw [sentAs, if_pos hasks] at hone
  exact ⟨_, _, exec_onlyMapped hquiet hears hforeign hf hmapped, hnoted, hone⟩

/-- Settles O19: a SHOW of length 0, and the one or two PATTERN frames of any other. -/
theorem showsBecomePatterns : Obligations.ShowsBecomePatterns := by
  refine ⟨fun s f hquiet hears hforeign hkind hempty htranslate hselector hpass => ?_, ?_⟩
  · have hasks : asksTranslation (s.map.activeBank.entry f.dst) f := ⟨hkind, htranslate, hselector⟩
    obtain ⟨u, t, hexec, hnoted, hclaimed⟩ := (passAndAbsorbEntries s f _ hquiet hears hforeign (by rw [hempty]; simp)
      (onlyMapped_of_show hkind) rfl).1 (.inr hpass)
    rw [translationNoted, if_pos hasks, if_pos hempty] at hnoted
    rw [sentAs, if_pos hasks, patternFrames, hempty] at hclaimed
    exact ⟨u, t, hexec, hnoted, hclaimed⟩
  · intro s f attr symbols e new hquiet hears hforeign hkind hpayload hlen he htranslate hselector haction pattern hpattern
    have hasks : asksTranslation e f := ⟨hkind, htranslate, hselector⟩
    have hnamed : named e.selector f.kind := named_of_show hkind hselector
    have hdisposition : e.disposition s.spur.state (kindOf f.kind) f.dst = .copies [copyTo e f .transit new] ∧
        ¬StaysOff (s.heard .upstream) f new := by
      rcases haction with ⟨hpass, hnew⟩ | ⟨hremap, hrange, hplace, hnew⟩
      · subst hnew
        exact ⟨disposition_pass _ (.inr hpass), not_staysOff_same _ f⟩
      · have htarget : new = e.target f.dst := hnew
        rw [disposition_of_named _ hnamed, hremap, htarget]
        refine ⟨if_pos hrange, fun hoff => ?_⟩
        have hown := (own_eq_some_iff s _).mp hoff.2
        rw [← htarget] at hown
        exact hplace.elim hown.1 fun hne => hne hown.2.symm
    obtain ⟨u, t, hexec, hcounted, hclaimed⟩ :=
      show_converted hquiet hears hforeign hkind hpayload hlen he hasks hdisposition.1 hdisposition.2
    rw [patternFrames] at hclaimed
    simp only [hpayload] at hclaimed
    refine ⟨u, t, hexec, hcounted, fun h7 => ?_, fun h8 => ?_⟩
    · rw [if_pos h7] at hclaimed
      rw [hpattern]
      exact hclaimed
    · rw [if_neg (by omega)] at hclaimed
      rw [hpattern]
      exact hclaimed

/-- Settles O23: the TRACE as O16 sends it, written out. -/
theorem tracesCarryTheHopRecord : Obligations.TracesCarryTheHopRecord := by
  intro s f n records hquiet hears haddr hsrc hdst hkind hpayload hlength hpass hop hhop
  have hmapped : onlyMapped s f := by refine onlyMapped_of_kind ?_ ?_ ?_ ?_ <;> rw [hkind] <;> decide
  have hf : f.payload.length ≤ 15 := by
    simp only [List.mem_cons, List.not_mem_nil, or_false] at hlength
    omega
  have hasks : ¬asksTranslation (s.map.activeBank.entry f.dst) f := fun h => by
    have hshow := h.1
    rw [hkind] at hshow
    exact absurd hshow (by decide)
  obtain ⟨u, t, hexec, hnoted, hclaimed⟩ := (passAndAbsorbEntries s f _ hquiet hears (.inr ⟨hsrc, hdst⟩) hf hmapped rfl).1 (.inr hpass)
  rw [translationNoted, if_neg hasks] at hnoted
  rw [sentAs, if_neg hasks, if_pos ⟨hkind, haddr, hlength⟩, traceSent, hpayload] at hclaimed
  subst hnoted hhop
  rw [hpayload]
  exact ⟨t, hexec, hclaimed⟩

end Sys2Proof.Proofs

/-! ## Blocks that read neither the run record nor the run gap (chapter 5)

A frame's placement, its events and its effect on the cells are the same whatever the run filter holds. -/

namespace Sys2Proof.Proofs

open Sys2Proof Sys2Proof.Machine

/-- The part with another run gap and another run record. -/
def withFilter (g : Digit) (r : RunRecord) (s : State) : State := { s with sup := { s.sup with gap := g }, run := r }

/-- What does the same whatever the run filter holds. -/
def Ignores (f : State → State) : Prop := ∀ g r s, f (withFilter g r s) = withFilter g r (f s)

section

variable (g : Digit) (r : RunRecord) (s : State)

@[simp] theorem withFilter_rate : (withFilter g r s).rate = s.rate := rfl
@[simp] theorem withFilter_adr : (withFilter g r s).adr = s.adr := rfl
@[simp] theorem withFilter_map : (withFilter g r s).map = s.map := rfl
@[simp] theorem withFilter_merge : (withFilter g r s).merge = s.merge := rfl
@[simp] theorem withFilter_spur : (withFilter g r s).spur = s.spur := rfl
@[simp] theorem withFilter_line : (withFilter g r s).line = s.line := rfl
@[simp] theorem withFilter_mgmt : (withFilter g r s).mgmt = s.mgmt := rfl
@[simp] theorem withFilter_latches : (withFilter g r s).sup.latches = s.sup.latches := rfl
@[simp] theorem withFilter_choices : (withFilter g r s).choices = s.choices := rfl

end

theorem Ignores.comp {f h : State → State} (hf : Ignores f) (hh : Ignores h) : Ignores (f ∘ h) := fun g r s => by
  change f (h (withFilter g r s)) = _
  rw [hh, hf]
  rfl

theorem ignores_id : Ignores id := fun _ _ _ => rfl

/-- A step that a condition decides which does not read the run filter. -/
theorem Ignores.ite {f h : State → State} {c : State → Prop} [∀ s, Decidable (c s)] (hc : ∀ g r s, c (withFilter g r s) ↔ c s)
    (hf : Ignores f) (hh : Ignores h) : Ignores fun s => if c s then f s else h s := fun g r s => by
  dsimp only
  rw [hf, hh, apply_ite (withFilter g r)]
  by_cases h : c s
  · rw [if_pos h, if_pos ((hc g r s).mpr h)]
  · rw [if_neg h, if_neg fun k => h ((hc g r s).mp k)]

theorem ignores_count (c : Counter) : Ignores fun s => s.count c := fun _ _ _ => rfl

theorem ignores_grantDown : Ignores State.grantDown := fun g r s => by
  have hwinner : (withFilter g r s).cycleWinner = s.cycleWinner := cycleWinner_congr rfl
  unfold State.grantDown
  rw [hwinner, withFilter_merge, withFilter_mgmt]
  by_cases htx : s.merge.tx = .ready
  · rw [if_pos htx, if_pos htx]
    cases s.mgmt.reply <;> cases s.cycleWinner <;> rfl
  · rw [if_neg htx, if_neg htx]

theorem ignores_grantSpur : Ignores State.grantSpur :=
  .ite (c := fun s => (s.spur.tx = .ready && s.spur.state ≠ .disabled && !s.spur.queue.isEmpty : Bool) = true)
    (fun _ _ _ => Iff.rfl) (fun _ _ _ => rfl) ignores_id

theorem ignores_insert (h : State → Held) (hh : ∀ g r s, h (withFilter g r s) = h s) : Ignores fun s => s.insert (h s) := fun g r s => by
  have hgrant := ignores_grantDown g r (s.setMerge { s.merge with insertion := s.merge.insertion ++ [h s] })
  dsimp only
  rw [hh]
  exact hgrant

theorem ignores_enter (q : Target) (hs : List Held) : Ignores fun s => s.enter q hs := fun g r s => by
  cases q with
  | transit => exact ignores_grantDown g r (s.setMerge { s.merge with transit := s.merge.transit ++ hs })
  | spurReturn => exact ignores_grantDown g r (s.setMerge { s.merge with spurReturn := s.merge.spurReturn ++ hs })
  | spurOut => exact ignores_grantSpur g r (s.setSpur { s.spur with queue := s.spur.queue ++ hs })

theorem ignores_examineEvent : Ignores State.examineEvent :=
  .ite (c := fun s => s.eventDue = true) (fun _ _ _ => Iff.rfl)
    (fun g r s => ignores_insert (fun _ => s.eventHeld) (fun _ _ _ => rfl) g r
      (s.setLines { s.line.record s.line.eventLines with eventSeq := s.line.eventSeq + 1#4 })) ignores_id

theorem ignores_moveEager (move : LineBlock → Fin 13 → LineBlock) (groups : List LineGroup) : Ignores (State.moveEager move groups) := by
  induction groups with
  | nil => exact ignores_id
  | cons x rest ih =>
    intro g r s
    have hmove : (withFilter g r s).moveGroup move x.lines = withFilter g r (s.moveGroup move x.lines) := rfl
    simp only [State.moveEager]
    rw [hmove, withFilter_line, withFilter_line]
    by_cases hcause : x.isCause s.line (s.moveGroup move x.lines).line = true
    · rw [if_pos hcause, if_pos hcause, ignores_examineEvent, ih]
    · rw [if_neg hcause, if_neg hcause, ih]

theorem ignores_moveLines (move : LineBlock → Fin 13 → LineBlock) (groups : List LineGroup) : Ignores (State.moveLines move groups) :=
  fun g r s => by
    have hconsume : (withFilter g r s).consume = withFilter g r s.consume := rfl
    unfold State.moveLines
    rw [hconsume, ignores_moveEager, ignores_moveEager, show (withFilter g r s).nextFree = s.nextFree from rfl, withFilter_line,
      apply_ite (withFilter g r)]

theorem ignores_latch (l : Latch) : Ignores fun s => s.latch l := fun g r s => by
  have hraw : (withFilter g r s).rawLatch l = withFilter g r (s.rawLatch l) := rfl
  dsimp only
  unfold State.latch State.tellEdge
  rw [hraw, show (withFilter g r (s.rawLatch l)).pseudoEdge = withFilter g r (s.rawLatch l).pseudoEdge from ignores_moveLines _ _ g r _,
    apply_ite (withFilter g r)]
  rfl

theorem ignores_count_latch (c : Counter) (l : Latch) : Ignores fun s => (s.count c).latch l :=
  (ignores_latch l).comp (ignores_count c)

theorem ignores_overrun (q : Target) : Ignores fun s => s.overrun q := by
  cases q <;> exact ignores_count_latch _ _

theorem ignores_translationTold (e : Entry) (f : Frame) : Ignores fun s => translationTold s e f :=
  .ite (c := fun _ => asksTranslation e f) (fun _ _ _ => Iff.rfl)
    (.ite (c := fun _ => f.payload = []) (fun _ _ _ => Iff.rfl) (ignores_count_latch _ _) (ignores_count _)) ignores_id

theorem ignores_enterCopy (hop : List Digit) (alone : Bool) (f : Frame) (c : Copy) : Ignores fun s => s.enterCopy hop alone f c :=
  .ite (c := fun s => (s.carriesRecords f alone c && !(s.pollLines f).isEmpty) = true) (fun _ _ _ => Iff.rfl)
    (fun g r s => ignores_enter c.target
      [{ digits := (s.pollWithRecords { f with dst := c.dst }).digits, tag := .report (s.pollLines f) }] g r
      (s.setLines (s.line.record (s.pollLines f))))
    (.ite (c := fun s => (s.addressed && kindOf f.kind = .trace && legalTrace f : Bool) = true) (fun _ _ _ => Iff.rfl)
      (ignores_enter _ _) (ignores_enter _ _))

/-- What answers the same, and does the same, whatever the run filter holds. -/
def IgnoresPair (f : State → Bool × State) : Prop := ∀ g r s, f (withFilter g r s) = ((f s).1, withFilter g r (f s).2)

theorem Ignores.pair {f : State → State} (hf : Ignores f) (b : Bool) : IgnoresPair fun s => (b, f s) := fun g r s => by
  dsimp only
  rw [hf]

theorem ignoresPair_placeCopy (e : Entry) (hop : List Digit) (alone : Bool) (f : Frame) (c : Copy) :
    IgnoresPair fun s => s.placeCopy e hop alone f c := fun g r s => by
  have hown : (withFilter g r s).own = s.own := rfl
  have hclaim (n : Nat) : (withFilter g r s).claim c.target n = s.claim c.target n := by cases c.target <;> rfl
  have hcount : (withFilter g r s).count .mapAbsorbed = withFilter g r (s.count .mapAbsorbed) := rfl
  have henter (hs : List Held) : (withFilter g r s).enter c.target hs = withFilter g r (s.enter c.target hs) := ignores_enter _ hs g r s
  have hcopy : (withFilter g r s).enterCopy hop alone f c = withFilter g r (s.enterCopy hop alone f c) :=
    ignores_enterCopy hop alone f c g r s
  have hoverrun : (withFilter g r s).overrun c.target = withFilter g r (s.overrun c.target) := ignores_overrun _ g r s
  dsimp only
  unfold State.placeCopy
  dsimp only
  rw [hown, withFilter_map, hclaim, hclaim, hcount, henter, hcopy, hoverrun]
  split_ifs <;> rfl

theorem ignoresPair_placeCopies (e : Entry) (hop : List Digit) (alone : Bool) (f : Frame) (cs : List Copy) :
    IgnoresPair fun s => s.placeCopies e hop alone f cs := by
  induction cs with
  | nil => exact ignores_id.pair false
  | cons c rest ih =>
    intro g r s
    have hfirst := ignoresPair_placeCopy e hop alone f c g r s
    have hrest := ih g r (s.placeCopy e hop alone f c).2
    dsimp only at hfirst hrest ⊢
    simp only [State.placeCopies]
    rw [hfirst]
    dsimp only
    rw [hrest]

theorem ignores_beforeClaims (f : Frame) (cs : List Copy) (g : Digit) (r : RunRecord) (s : State) :
    (withFilter g r s).beforeClaims f cs = ((s.beforeClaims f cs).1, withFilter g r (s.beforeClaims f cs).2) := by
  have hmalformed : (withFilter g r s).malformedEvent = withFilter g r s.malformedEvent := ignores_count_latch _ _ g r s
  unfold State.beforeClaims
  rw [hmalformed]
  by_cases hany : (cs.any fun c => c.translate) = true
  · rw [if_pos hany, if_pos hany]
    by_cases hempty : f.payload.isEmpty = true
    · rw [if_pos hempty, if_pos hempty]
    · rw [if_neg hempty, if_neg hempty]
      rfl
  · rw [if_neg hany, if_neg hany]

theorem ignoresPair_lookupAndPlace (f : Frame) : IgnoresPair fun s => s.lookupAndPlace f := fun g r s => by
  dsimp only
  unfold State.lookupAndPlace
  dsimp only
  rw [withFilter_map, withFilter_spur]
  cases (s.map.activeBank.entry f.dst).disposition s.spur.state (kindOf f.kind) f.dst with
  | absorbed => rfl
  | copies cs =>
    dsimp only
    rw [ignores_beforeClaims]
    exact ignoresPair_placeCopies _ _ _ f _ g r _

theorem ignores_broadcastEffect (f : Frame) (adjust : Bool) : Ignores fun s => s.broadcastEffect f adjust :=
  .ite (c := fun s => (s.addressed && f.dst = Config.broadcast : Bool) = true) (fun _ _ _ => Iff.rfl)
    (fun _ _ _ => by cases f.payload <;> rfl) ignores_id

end Sys2Proof.Proofs

/-! ## The local cells: own frames and broadcasts (R27, R114, R118 to R121) -/

namespace Sys2Proof.Proofs

open Sys2Proof Sys2Proof.Machine

/-! ### Digits and masks for the cells (R118) -/

theorem cellClass_eq_latch_iff (c : Digit) (i : Fin 3) : cellClass c = .latch i ↔ c = BitVec.ofNat 4 i.val := by
  revert c i; decide

theorem cellWritable_iff (c : Digit) : cellWritable c = true ↔ c.toNat ≤ 2 := by
  rw [cellWritable, decide_eq_true_eq]

/-- R118: one digit changes the latch of its own cell, where it has one, and no other. -/
theorem latches_putCell (b : LineBlock) (adjust : Bool) (c v : Digit) (i : Fin 3) :
    (b.putCell adjust c v).latches[i] =
      if c = BitVec.ofNat 4 i.val then (if adjust then b.latches[i] ^^^ v else v) else b.latches[i] := by
  unfold LineBlock.putCell
  by_cases hc : c = BitVec.ofNat 4 i.val
  · rw [if_pos hc, (cellClass_eq_latch_iff c i).mpr hc]
    simp
  · rw [if_neg hc]
    cases hclass : cellClass c with
    | latch j =>
      have hne : j.val ≠ i.val := fun hij => hc ((cellClass_eq_latch_iff c i).mp (by rw [hclass, Fin.ext hij]))
      simp [Vector.getElem_set_ne, hne]
    | level j | pendingFlags j | faultSummary | absent => rfl

/-- R118: what the digits of a WRITE, or the masks of an ADJUST, leave in the latches. -/
theorem cellsAfter_putCells (b : LineBlock) (adjust : Bool) (c : Digit) {vs : List Digit} (h : vs.length ≤ 15) :
    cellsAfter b.latches (b.putCells adjust c vs).latches adjust c vs := by
  have hfirst : ∀ x y : Digit, y = x → (x - y).toNat = 0 ∧ (x - (y + 1#4)).toNat = 15 := by decide
  have hlater : ∀ x y : Digit, y ≠ x → (x - y).toNat = (x - (y + 1#4)).toNat + 1 := by decide
  induction vs generalizing b c with
  | nil => exact fun i => rfl
  | cons v rest ih =>
    intro i
    rw [List.length_cons] at h
    have hrest := ih (b.putCell adjust c v) (c + 1#4) (by omega) i
    rw [latches_putCell] at hrest
    change ((b.putCell adjust c v).putCells adjust (c + 1#4) rest).latches[i] = _
    rw [hrest]
    by_cases hc : c = BitVec.ofNat 4 i.val
    · obtain ⟨hzero, hwrapped⟩ := hfirst _ _ hc
      rw [hzero, hwrapped, List.getElem?_eq_none (by omega), if_pos hc, List.getElem?_cons_zero]
    · rw [hlater _ _ hc, List.getElem?_cons_succ, if_neg hc]

theorem anyCell_iff (p : Digit → Bool) (c : Digit) (n : Nat) :
    anyCell p c n = true ↔ ∃ j, j < n ∧ p (c + BitVec.ofNat 4 j) = true := by
  induction n generalizing c with
  | zero => simp [anyCell]
  | succ n ih =>
    have hshift (j : Nat) : c + 1#4 + BitVec.ofNat 4 j = c + BitVec.ofNat 4 (j + 1) := by
      rw [BitVec.add_assoc, Nat.add_comm j 1, BitVec.ofNat_add]
    rw [anyCell, Bool.or_eq_true, ih]
    constructor
    · rintro (h | ⟨j, hj, h⟩)
      · exact ⟨0, by omega, by simpa using h⟩
      · exact ⟨j + 1, by omega, by rwa [← hshift]⟩
    · rintro ⟨j, hj, h⟩
      cases j with
      | zero => exact .inl (by simpa using h)
      | succ j => exact .inr ⟨j, by omega, by rwa [hshift]⟩

/-! ### Own frames (R24, R118 to R121) -/

/-- An own frame of a requester that a part delivers is handed to `ownFrame`. -/
theorem exec_own {s t : State} {q : Requester} {c : Instr} {kind : Digit} {payload : List Digit} (h : s.Delivers q)
    (hc : ownFrameOf c = some (q, kind, payload)) (hp : payload.length ≤ 15)
    (ht : (s.heard q.port).ownFrame { kind := kind, dst := s.adr, src := q.src, seq := q.seq, payload := payload } = t)
    (hcommit : t.mgmt.commit = none) : exec c s = .next t := by
  rw [exec_eq_takeFrame hc, State.settled_of_quiet h.1, State.arriveOwn_of_delivers h kind payload hp]
  dsimp only
  rw [ht, hcommit]
  simp

theorem heard_addressed {s : State} {q : Requester} (h : s.Delivers q) : (s.heard q.port).addressed = true := by
  obtain ⟨-, -, haddr, -⟩ := h
  simp [State.addressed, haddr]

theorem putCells_eq_latches (b : LineBlock) (adjust : Bool) (c : Digit) (vs : List Digit) :
    b.putCells adjust c vs = { b with latches := (b.putCells adjust c vs).latches } := putCells_eq b adjust c vs

theorem exec_ownCells {s : State} {q : Requester} {adjust : Bool} {cell : Digit} {vs : List Digit} (h : s.Delivers q)
    (hlen : vs.length ≤ 14) :
    exec (if adjust then .ownAdjust q cell vs else .ownWrite q cell vs) s = .next ((s.heard q.port).ownCells adjust cell vs) := by
  have hp : (cell :: vs).length ≤ 15 := by
    rw [List.length_cons]
    omega
  have hcommit : ((s.heard q.port).ownCells adjust cell vs).mgmt.commit = none := by
    rw [(works_ownCells (d := .nothing) (heard_addressed h) adjust cell vs).sameStates.commit, State.heard_mgmt, h.2.1.2.1]
  cases adjust with
  | false => exact exec_own (c := .ownWrite q cell vs) h rfl hp rfl hcommit
  | true => exact exec_own (c := .ownAdjust q cell vs) h rfl hp rfl hcommit

/-- Settles O25: the digits change the latches alone, and the access error follows. -/
theorem ownWritesAndAdjustsReachTheLatches : Obligations.OwnWritesAndAdjustsReachTheLatches := by
  intro s q adjust cell vs h hlen
  have hline : (s.heard q.port).line = s.line := State.heard_line s q.port
  have hother : anyCell (fun c => !cellWritable c) cell vs.length = true ↔
      ∃ j, j < vs.length ∧ 2 < (cell + BitVec.ofNat 4 j).toNat := by
    simp only [anyCell_iff, Bool.not_eq_true', ← Bool.not_eq_true, cellWritable_iff, not_le]
  refine ⟨s.line.putCells adjust cell vs, _, exec_ownCells h hlen, putCells_eq_latches _ _ _ _,
    cellsAfter_putCells _ _ _ (by omega), fun hbad => ?_, fun hgood => ?_⟩
  · unfold State.ownCells
    rw [hline, if_pos (hother.mpr hbad)]
    exact latched_latch _ _
  · unfold State.ownCells
    rw [hline, if_neg fun hbad => ?_]
    · rfl
    · obtain ⟨j, hj, h2⟩ := hother.mp hbad
      exact absurd (hgood j hj) (by omega)

/-- R120: the values read, each masked while masks last. -/
theorem readCells_eq (s : State) (c : Digit) (n : Nat) (masks : List Digit) :
    s.readCells c n masks = (List.range n).map fun i =>
      match masks[i]? with
      | some m => s.cell (c + BitVec.ofNat 4 i) &&& m
      | none => s.cell (c + BitVec.ofNat 4 i) := by
  induction n generalizing c masks with
  | zero => cases masks <;> rfl
  | succ n ih =>
    have hshift (j : Nat) : c + 1#4 + BitVec.ofNat 4 j = c + BitVec.ofNat 4 (j + 1) := by
      rw [BitVec.add_assoc, Nat.add_comm j 1, BitVec.ofNat_add]
    rw [List.range_succ_eq_map, List.map_cons, List.map_map]
    cases masks with
    | nil => simp [State.readCells, ih, hshift, Function.comp_def]
    | cons m ms => simp [State.readCells, ih, hshift, Function.comp_def]

/-- What a part has heard changes none of what its cells show, where it hears the input. -/
theorem heard_cell (s : State) (p : Port) (c : Digit) : (s.heard p).cell c = s.cell c := by
  cases p <;> rfl

theorem readCells_heard (s : State) (p : Port) (c : Digit) (n : Nat) (masks : List Digit) :
    (s.heard p).readCells c n masks = s.readCells c n masks := by
  simp only [readCells_eq, heard_cell]

theorem ownRead_frame {s : State} {q : Requester} {cell count : Digit} {masks : List Digit} (hcount : count ≠ 0#4) :
    (s.heard q.port).ownFrame { kind := 0x2#4, dst := s.adr, src := q.src, seq := q.seq, payload := cell :: count :: masks } =
      (s.heard q.port).ownRead { kind := 0x2#4, dst := s.adr, src := q.src, seq := q.seq, payload := cell :: count :: masks } cell
        count.toNat masks := if_neg hcount

/-- Settles O26: the REPLY allowance decides, and the access error comes after the REPLY. -/
theorem ownReadIsAnsweredOrRefused : Obligations.OwnReadIsAnsweredOrRefused := by
  intro s q cell count masks h hcount hmasks
  have hp : (cell :: count :: masks).length ≤ 15 := by
    simp only [List.length_cons]
    omega
  have hinserted : (s.heard q.port).inserted .reply = s.inserted .reply := by
    unfold State.inserted
    rw [State.heard_merge]
  have hk : count.toNat ≤ 15 := by omega
  have hcommit := (works_ownRead (d := .nothing) (heard_addressed h)
    { kind := 0x2#4, dst := s.adr, src := q.src, seq := q.seq, payload := cell :: count :: masks } cell hk masks).sameStates.commit
  rw [State.heard_mgmt, h.2.1.2.1] at hcommit
  have hexec := exec_own (c := .ownRead q cell count masks) h rfl hp (ownRead_frame hcount) hcommit
  have habsent : anyCell cellAbsent cell count.toNat = true ↔ ∃ j, j < count.toNat ∧ absentCell (cell + BitVec.ofNat 4 j) := by
    simp only [anyCell_iff, cellAbsent, decide_eq_true_eq, absentCell_iff]
  unfold State.ownRead at hexec
  rw [hinserted] at hexec
  have hreply : Held.plain (replyFrame (s.heard q.port).adr
      { kind := 0x2#4, dst := s.adr, src := q.src, seq := q.seq, payload := cell :: count :: masks }
      ((s.heard q.port).readCells cell count.toNat masks)).digits =
      untagged { kind := 0x3#4, dst := q.src, src := s.adr, seq := q.seq, payload := s.readCells cell count.toNat masks } := by
    rw [readCells_heard, State.heard_adr]
    rfl
  rw [hreply, readCells_eq] at hexec
  refine ⟨fun hroom => ?_, fun hfull => ?_⟩
  · rw [if_pos (show s.inserted .reply < Config.replyAllowance from hroom)] at hexec
    refine ⟨_, _, hexec, inserted_insert _ _, fun hbad => ?_, fun hgood => ?_⟩
    · rw [if_pos (habsent.mpr hbad)]
      exact latched_latch _ _
    · exact if_neg fun hbad =>
        have ⟨j, hj, hcell⟩ := habsent.mp hbad
        hgood j hj hcell
  · rw [if_neg (show ¬s.inserted .reply < Config.replyAllowance from Nat.not_lt.mpr hfull)] at hexec
    exact ⟨_, hexec, reported_count_latch _ _ _⟩

end Sys2Proof.Proofs

/-! ## Runs, records and broadcast effects on the main path (R27, R83 to R85, R90, R119, R123, R129, R130) -/

namespace Sys2Proof.Proofs

open Sys2Proof Sys2Proof.Machine

/-! ### WRITE and ADJUST -/

theorem candidate_of_kind (s : State) {f : Frame} (h : f.kind = 0x0#4 ∨ f.kind = 0x1#4) :
    s.mainPath f = s.candidate f (f.kind = 0x1#4) := by
  rcases h with h | h <;> simp [State.mainPath, h, kindOf]

/-- A WRITE or ADJUST is sent as it is, and carries no records. -/
theorem plain_of_candidate {f : Frame} (h : f.kind = 0x0#4 ∨ f.kind = 0x1#4) (s : State) (e : Entry) (dst : Addr) :
    ¬asksTranslation e f ∧ CarriesNoRecords s f ∧ sentAs s e { f with dst := dst } = [untagged { f with dst := dst }] := by
  have hne : ∀ k : Digit, k = 0x0#4 ∨ k = 0x1#4 → k ≠ 0x4#4 ∧ k ≠ 0x6#4 ∧ k ≠ 0xA#4 := by decide
  obtain ⟨hshow, hpoll, htrace⟩ := hne _ h
  refine ⟨fun hasks => hshow hasks.1, .inr (.inr (.inl hpoll)), ?_⟩
  rw [sentAs, if_neg fun hasks => hshow hasks.1, if_neg fun hc => htrace hc.1]

theorem translationTold_of_not {s : State} {e : Entry} {f : Frame} (h : ¬asksTranslation e f) : translationTold s e f = s := if_neg h

/-- R26, R28: the only copy of a WRITE or ADJUST that keeps its destination. -/
theorem lookupAndPlace_candidate {s : State} {e : Entry} {f : Frame} {q : Target} (hkind : f.kind = 0x0#4 ∨ f.kind = 0x1#4)
    (he : e = s.map.activeBank.entry f.dst) (h : e.disposition s.spur.state (kindOf f.kind) f.dst = .copies [copyTo e f q f.dst]) :
    s.lookupAndPlace f = claimFor s q [untagged f] := by
  obtain ⟨hasks, hrecords, hsent⟩ := plain_of_candidate hkind s e f.dst
  rw [lookupAndPlace_one_eq he h hrecords (not_staysOff_same s f), hsent, translationTold_of_not hasks]

/-! ### Broadcasts (R27, R119) -/

/-- R27, R119: what a broadcast does once it has been placed. -/
theorem appliedOnce_afterPlacement {u : State} {e : Entry} {f : Frame} {adjust : Bool} (haddr : u.adr ≠ Config.broadcast)
    (hdst : f.dst = Config.broadcast) (hlen : f.payload.length ≤ 15)
    (hrun : adjust = true ∨ f.payload = [] ∨ u.sup.gap = 0#4 ∨ e.absorbRuns = false) :
    appliedOnce u (u.afterPlacement e f adjust true) adjust f.payload := by
  have heffect : u.afterPlacement e f adjust true = u.broadcastEffect f adjust := by
    change State.broadcastEffect _ f adjust = _
    cases hpayload : f.payload with
    | nil => rfl
    | cons cell rest =>
      cases adjust with
      | true => rfl
      | false =>
        have hrun' : u.sup.gap = 0#4 ∨ e.absorbRuns = false := by
          rcases hrun with h | h | h
          · cases h
          · rw [hpayload] at h
            cases h
          · exact h
        change (u.openRun e f.dst cell).broadcastEffect f false = _
        rw [openRun_of_not hrun']
  rw [heffect, State.broadcastEffect, if_pos (by simp [State.addressed, haddr, hdst])]
  cases hpayload : f.payload with
  | nil => exact rfl
  | cons cell vs =>
    rw [hpayload, List.length_cons] at hlen
    refine ⟨?_, cellsAfter_putCells _ _ _ (by omega)⟩
    dsimp only
    rw [putCells_eq_latches]
    rfl

theorem afterPlacement_lost (u : State) (e : Entry) (f : Frame) (adjust : Bool) : u.afterPlacement e f adjust false = u := rfl

theorem room_heard (s : State) (p : Port) (q : Target) (n : Nat) : (s.heard p).Room q n ↔ s.Room q n := by
  cases p <;> cases q <;> exact Iff.rfl

/-- R28: a claim for the transit queue leaves the room of the spur-out queue. -/
theorem room_spurOut_claimFor_transit (s : State) (hs : List Held) (n : Nat) :
    (claimFor s .transit hs).2.Room .spurOut n ↔ s.Room .spurOut n := by
  have hspur : (claimFor s .transit hs).2.spur = s.spur := by
    unfold claimFor
    split
    · exact (eventEffect_grantDown _).frame.2.2.2.2.2.2.2.2.1
    · obtain ⟨-, -, -, -, -, -, -, -, hspur, -⟩ := (eventEffect_latch (s.count .transitOverrun) .transitOverrun).frame
      exact hspur
  unfold State.Room
  rw [hspur]

/-- A frame from another station to all stations is foreign. -/
theorem foreign_of_broadcast {s : State} {f : Frame} (haddr : s.adr ≠ Config.broadcast) (hsrc : f.src ≠ s.adr)
    (hdst : f.dst = Config.broadcast) : s.Foreign f := .inr ⟨hsrc, fun h => haddr (by rw [← h, hdst])⟩

/-- R83: a WRITE or ADJUST outside the open run, from the arrival on. -/
theorem exec_candidate {s : State} {f : Frame} (hquiet : s.Quiet) (hears : s.Hears .upstream) (hforeign : s.Foreign f)
    (hf : f.payload.length ≤ 15) (hkind : f.kind = 0x0#4 ∨ f.kind = 0x1#4) (houtside : outsideTheRun s f) :
    exec (.takeFrame .upstream .ended f.digits) s = .next
      (((s.heard .upstream).lookupAndPlace f).2.afterPlacement (s.map.activeBank.entry f.dst) f (f.kind = 0x1#4)
        ((s.heard .upstream).lookupAndPlace f).1) := by
  rw [exec_takeFrame_mainPath hquiet hears hforeign hf, candidate_of_kind _ hkind,
    candidate_of_outside (outsideTheRun_arrived houtside),
    show (s.arrived .upstream .reset).closeRun = s.heard .upstream from arrived_withoutRun (settled_of_hears hears)]
  rfl

/-- The dispositions of a frame that goes to one queue under its own destination, or is absorbed, in the statements' terms. -/
theorem disposition_transit {s : State} {e : Entry} {f : Frame}
    (h : ¬named e.selector f.kind ∨ e.action = .pass ∨
      s.spur.state = .opened ∧ (e.action = .mirror ∨ e.action = .divert ∧ e.fallbackAbsorb = false)) :
    e.disposition s.spur.state (kindOf f.kind) f.dst = .copies [copyTo e f .transit f.dst] := by
  by_cases hpass : ¬named e.selector f.kind ∨ e.action = .pass
  · exact disposition_pass _ hpass
  · rw [not_or, not_not] at hpass
    obtain ⟨hopen, haction⟩ := (h.resolve_left (not_not.mpr hpass.1)).resolve_left hpass.2
    rw [disposition_of_named _ hpass.1, hopen]
    rcases haction with haction | ⟨haction, hfall⟩
    · simp [haction]
    · simp [haction, hfall]

theorem disposition_spurOut {s : State} {e : Entry} {f : Frame} (hnamed : named e.selector f.kind) (haction : e.action = .divert)
    (hclosed : s.spur.state = .closed) :
    e.disposition s.spur.state (kindOf f.kind) f.dst = .copies [copyTo e f .spurOut f.dst] := by
  simp [disposition_of_named _ hnamed, haction, hclosed]

theorem disposition_mirrored {s : State} {e : Entry} {f : Frame} (hnamed : named e.selector f.kind) (haction : e.action = .mirror)
    (hclosed : s.spur.state = .closed) :
    e.disposition s.spur.state (kindOf f.kind) f.dst = .copies [copyTo e f .transit f.dst, copyTo e f .spurOut f.dst] := by
  simp [disposition_of_named _ hnamed, haction, hclosed]

theorem disposition_absorbed {s : State} {e : Entry} {f : Frame} (hnamed : named e.selector f.kind)
    (haction : e.action = .absorb ∨ e.action = .divert ∧ s.spur.state = .opened ∧ e.fallbackAbsorb = true) :
    e.disposition s.spur.state (kindOf f.kind) f.dst = .absorbed := by
  rcases haction with haction | ⟨haction, hopen, hfall⟩
  · simp [disposition_of_named _ hnamed, haction]
  · simp [disposition_of_named _ hnamed, haction, hopen, hfall]

/-- Settles O24: the copies of a broadcast, and its effect where one of them was placed. -/
theorem broadcastWritesReachTheLatches : Obligations.BroadcastWritesReachTheLatches := by
  intro s f e hquiet hears haddr hsrc hkind hdst hf houtside he hrun
  rw [← hdst] at he
  have hexec := exec_candidate hquiet hears (foreign_of_broadcast haddr hsrc hdst) hf hkind houtside
  rw [← he] at hexec
  refine ⟨_, hexec, ?_⟩
  have hrun' {u : State} (hsame : SameStates (s.heard .upstream) u) :
      decide (f.kind = 0x1#4) = true ∨ f.payload = [] ∨ u.sup.gap = 0#4 ∨ e.absorbRuns = false := by
    rw [hsame.gap]
    exact hrun.imp_left fun h => by rw [h]; rfl
  have hadr {u : State} (hsame : SameStates (s.heard .upstream) u) : u.adr ≠ Config.broadcast := by
    rw [hsame.adr]
    exact haddr
  have hone {q : Target} (h : e.disposition s.spur.state (kindOf f.kind) f.dst = .copies [copyTo e f q f.dst]) :
      placedAndApplied (s.heard .upstream)
        (((s.heard .upstream).lookupAndPlace f).2.afterPlacement e f (f.kind = 0x1#4) ((s.heard .upstream).lookupAndPlace f).1) q f := by
    rw [lookupAndPlace_candidate (s := s.heard .upstream) hkind he h]
    refine ⟨fun hroom => ?_, fun hroom => ?_⟩
    · have hsame := sameStates_claimFor (s.heard .upstream) q [untagged f]
      rw [claimFor_placed hroom] at hsame ⊢
      exact ⟨_, placed_enter _ _ _, appliedOnce_afterPlacement (hadr hsame) hdst hf (hrun' hsame)⟩
    · rw [claimFor_lost hroom]
      exact reported_overrun _ _
  refine ⟨fun h => hone (disposition_transit h), fun hnamed haction hclosed => hone (disposition_spurOut hnamed haction hclosed),
    fun hnamed haction hclosed => ?_, fun hnamed haction => ?_⟩
  · obtain ⟨hasks, hrecords, hsent⟩ := plain_of_candidate hkind (s.heard .upstream) e f.dst
    rw [lookupAndPlace_two_eq (s := s.heard .upstream) he (disposition_mirrored hnamed haction hclosed) hrecords,
      translationTold_of_not hasks, hsent]
    dsimp only
    have hroomSpur := room_spurOut_claimFor_transit (s.heard .upstream) [untagged f] 1
    have hsame := (sameStates_claimFor (s.heard .upstream) .transit [untagged f]).trans
      (sameStates_claimFor (claimFor (s.heard .upstream) .transit [untagged f]).2 .spurOut [untagged f])
    refine ⟨_, _, claimed_claimFor _ _ _, claimed_claimFor _ _ _, fun hroom => ?_, fun htransit hspur => ?_⟩
    · have hplaced : ((claimFor (s.heard .upstream) .transit [untagged f]).1 ||
          (claimFor (claimFor (s.heard .upstream) .transit [untagged f]).2 .spurOut [untagged f]).1) = true := by
        rw [Bool.or_eq_true]
        rcases hroom with hroom | hroom
        · exact .inl (by rw [claimFor_placed (s := s.heard .upstream) (q := .transit) (hs := [untagged f]) hroom])
        · exact .inr (by rw [claimFor_placed (hroomSpur.mpr hroom)])
      rw [hplaced]
      exact appliedOnce_afterPlacement (hadr hsame) hdst hf (hrun' hsame)
    · have hlost : ((claimFor (s.heard .upstream) .transit [untagged f]).1 ||
          (claimFor (claimFor (s.heard .upstream) .transit [untagged f]).2 .spurOut [untagged f]).1) = false := by
        rw [claimFor_lost (s := claimFor _ _ _ |>.2) fun h => hspur (hroomSpur.mp h),
          claimFor_lost (s := s.heard .upstream) (q := .transit) (hs := [untagged f]) htransit]
        rfl
      rw [hlost, afterPlacement_lost]
  · rw [lookupAndPlace_absorbed (s := s.heard .upstream) (by rw [State.heard_map, ← he]; exact disposition_absorbed hnamed haction)]
    exact counted_count _ _

end Sys2Proof.Proofs

/-! ## Runs (R83 to R85, R90) -/

namespace Sys2Proof.Proofs

open Sys2Proof Sys2Proof.Machine

/-! ### Placed WRITEs (R84) -/

theorem openRun_of_placed {u : State} {e : Entry} (hclosed : u.run = .closed) (dest : Addr) (cell : Digit) :
    u.openRun e dest cell = { u with run :=
      if e.absorbRuns = true ∧ e.action ≠ .absorb ∧ u.sup.gap ≠ 0#4 then
        { isOpen := true, dest := dest, cell := cell, adjustTaken := false }
      else .closed } := by
  by_cases h : e.absorbRuns = true ∧ e.action ≠ .absorb ∧ u.sup.gap ≠ 0#4
  · obtain ⟨habsorb, haction, hgap⟩ := h
    rw [if_pos ⟨habsorb, haction, hgap⟩, State.openRun, if_pos (by simp [hclosed, RunRecord.closed, habsorb, haction, hgap])]
    rfl
  · rw [if_neg h, ← hclosed, State.openRun, if_neg]
    simp only [Bool.and_eq_true, decide_eq_true_eq]
    exact fun ⟨⟨⟨_, habsorb⟩, haction⟩, hgap⟩ => h ⟨habsorb, haction, hgap⟩

/-- Settles the first clause of O20: a WRITE that its entry passes. -/
theorem passed_write_opens_run {s : State} {f : Frame} {cell : Digit} {values : List Digit} {e : Entry} (hquiet : s.Quiet)
    (hears : s.Hears .upstream) (hforeign : s.Foreign f) (hkind : f.kind = 0x0#4) (hpayload : f.payload = cell :: values)
    (hlen : values.length ≤ 14) (hdst : f.dst ≠ Config.broadcast) (hrun : s.run = .closed) (he : e = s.map.activeBank.entry f.dst)
    (hpass : e.action = .pass) :
    ∃ t, exec (.takeFrame .upstream .ended f.digits) s = .next t ∧
      (s.Room .transit 1 →
        ∃ u, Placed (s.heard .upstream) u .transit [untagged f] ∧
          t = { u with run :=
            if e.absorbRuns = true ∧ s.sup.gap ≠ 0#4 then
              { isOpen := true, dest := f.dst, cell := cell, adjustTaken := false }
            else .closed }) ∧
      (¬s.Room .transit 1 → Reported (s.heard .upstream) t .transitOverrun .transitOverrun) := by
  have hf : f.payload.length ≤ 15 := by
    rw [hpayload, List.length_cons]
    omega
  have hexec := exec_candidate hquiet hears hforeign hf (.inl hkind) (.inl hrun)
  have hadjust : decide (f.kind = 0x1#4) = false := by
    rw [hkind]
    rfl
  rw [← he, lookupAndPlace_candidate (s := s.heard .upstream) (.inl hkind) he (disposition_pass _ (.inr hpass)), hadjust] at hexec
  refine ⟨_, hexec, fun hroom => ?_, fun hroom => ?_⟩
  · rw [claimFor_placed (s := s.heard .upstream) (q := .transit) (hs := [untagged f]) hroom]
    refine ⟨_, placed_enter _ _ _, ?_⟩
    have hclosed : ((s.heard .upstream).enter .transit [untagged f]).run = .closed := State.enter_run _ _ _
    have hgap : ((s.heard .upstream).enter .transit [untagged f]).sup.gap = s.sup.gap := by
      rw [State.enter_sup]
      rfl
    change State.broadcastEffect _ f false = _
    rw [hpayload]
    dsimp only
    rw [broadcastEffect_of_other (.inr hdst), if_neg (by simp), openRun_of_placed hclosed, hgap]
    simp only [hpass, ne_eq, reduceCtorEq, not_false_eq_true, true_and]
  · rw [claimFor_lost (s := s.heard .upstream) (q := .transit) (hs := [untagged f]) hroom]
    exact reported_overrun (s.heard .upstream) .transit

/-! ### Whether a copy was placed -/

/-- An answer that says whether a frame was placed: a placed one lengthens its queue, and a lost one leaves the queues of the main path. -/
structure PlacesAsAnswered (s : State) (r : Bool × State) : Prop where
  placed : r.1 = true → s.merge.transit.length + s.spur.queue.length < r.2.merge.transit.length + r.2.spur.queue.length
  lost : r.1 = false → r.2.merge.transit = s.merge.transit ∧ r.2.spur.queue = s.spur.queue
  run : r.2.run = s.run

theorem PlacesAsAnswered.queues_ne_iff {s : State} {r : Bool × State} (h : PlacesAsAnswered s r) :
    r.2.merge.transit ≠ s.merge.transit ∨ r.2.spur.queue ≠ s.spur.queue ↔ r.1 = true := by
  refine ⟨fun hne => ?_, fun hplaced => ?_⟩
  · by_contra hlost
    obtain ⟨htransit, hqueue⟩ := h.lost (by simpa using hlost)
    exact hne.elim (fun k => k htransit) fun k => k hqueue
  · by_contra hsame
    rw [not_or, not_not, not_not] at hsame
    have hlonger := h.placed hplaced
    rw [hsame.1, hsame.2] at hlonger
    omega

/-- Two placements one after the other. -/
theorem PlacesAsAnswered.both {s : State} {r q : Bool × State} (hr : PlacesAsAnswered s r) (hq : PlacesAsAnswered r.2 q) :
    PlacesAsAnswered s (r.1 || q.1, q.2) where
  placed h := by
    cases hr1 : r.1 with
    | true =>
      have hlonger := hr.placed hr1
      cases hq1 : q.1 with
      | true => exact hlonger.trans (hq.placed hq1)
      | false =>
        obtain ⟨htransit, hqueue⟩ := hq.lost hq1
        dsimp only
        rwa [htransit, hqueue]
    | false =>
      obtain ⟨htransit, hqueue⟩ := hr.lost hr1
      have hlonger := hq.placed (by simpa [hr1] using h)
      rwa [htransit, hqueue] at hlonger
  lost h := by
    obtain ⟨hr1, hq1⟩ := Bool.or_eq_false_iff.mp h
    exact ⟨(hq.lost hq1).1.trans (hr.lost hr1).1, (hq.lost hq1).2.trans (hr.lost hr1).2⟩
  run := hq.run.trans hr.run

theorem placesAsAnswered_lost {s t : State} (htransit : t.merge.transit = s.merge.transit) (hqueue : t.spur.queue = s.spur.queue)
    (hrun : t.run = s.run) : PlacesAsAnswered s (false, t) := ⟨nofun, fun _ => ⟨htransit, hqueue⟩, hrun⟩

theorem placesAsAnswered_enter {s u : State} {q : Target} {hs : List Held} (hne : hs ≠ []) (hq : q ≠ .spurReturn)
    (hmerge : u.merge = s.merge) (hspur : u.spur = s.spur) (hrun : u.run = s.run) : PlacesAsAnswered s (true, u.enter q hs) := by
  have hlength := List.length_pos_iff.mpr hne
  refine ⟨fun _ => ?_, nofun, by simp [hrun]⟩
  cases q with
  | transit => simp [hmerge, hspur]; omega
  | spurOut => simp [hmerge, hspur]; omega
  | spurReturn => exact absurd rfl hq

theorem placesAsAnswered_count_latch (s : State) (c : Counter) (l : Latch) : PlacesAsAnswered s (false, (s.count c).latch l) := by
  obtain ⟨-, -, -, -, -, -, -, hrun, hspur, -, -, -, htransit, -⟩ := (eventEffect_latch (s.count c) l).frame
  exact placesAsAnswered_lost htransit (congrArg SpurUnit.queue hspur) hrun

theorem placesAsAnswered_overrun (s : State) (q : Target) : PlacesAsAnswered s (false, s.overrun q) := by
  cases q <;> exact placesAsAnswered_count_latch s _ _

theorem placesAsAnswered_enterCopy (s : State) (hop : List Digit) (alone : Bool) (f : Frame) {c : Copy} (hc : c.target ≠ .spurReturn) :
    PlacesAsAnswered s (true, s.enterCopy hop alone f c) := by
  unfold State.enterCopy
  dsimp only
  split
  · exact placesAsAnswered_enter (by simp) hc rfl rfl rfl
  · split
    · exact placesAsAnswered_enter (by simp) hc rfl rfl rfl
    · exact placesAsAnswered_enter (by simp) hc rfl rfl rfl

theorem convert_ne_nil (b : Bank) (e : Entry) (f : Frame) : b.convert e f ≠ [] := by
  unfold Bank.convert
  split
  · simp
  · dsimp only
    split <;> simp

theorem placesAsAnswered_placeCopy (s : State) (e : Entry) (hop : List Digit) (alone : Bool) (f : Frame) {c : Copy}
    (hc : c.target ≠ .spurReturn) : PlacesAsAnswered s (s.placeCopy e hop alone f c) := by
  unfold State.placeCopy
  dsimp only
  split
  · exact placesAsAnswered_lost rfl rfl rfl
  · split
    · split
      · exact placesAsAnswered_enter (by simpa using convert_ne_nil _ _ _) hc rfl rfl rfl
      · exact placesAsAnswered_overrun _ _
    · split
      · exact placesAsAnswered_enterCopy s hop alone f hc
      · exact placesAsAnswered_overrun _ _

theorem placesAsAnswered_placeCopies (s : State) (e : Entry) (hop : List Digit) (alone : Bool) (f : Frame) {cs : List Copy}
    (hcs : ∀ c ∈ cs, c.target ≠ .spurReturn) : PlacesAsAnswered s (s.placeCopies e hop alone f cs) := by
  induction cs generalizing s with
  | nil => exact placesAsAnswered_lost rfl rfl rfl
  | cons c rest ih =>
    exact (placesAsAnswered_placeCopy s e hop alone f (hcs c (by simp))).both (ih _ fun x hx => hcs x (by simp [hx]))

/-- R26 to R31: the answer of the lookup and placement of a frame. -/
theorem placesAsAnswered_lookupAndPlace (s : State) (f : Frame) : PlacesAsAnswered s (s.lookupAndPlace f) := by
  unfold State.lookupAndPlace
  dsimp only
  cases hdisposition : (s.map.activeBank.entry f.dst).disposition s.spur.state (kindOf f.kind) f.dst with
  | absorbed => exact placesAsAnswered_lost rfl rfl rfl
  | copies cs =>
    have htargets := beforeClaims_targets (s := s) (f := f) (P := fun q => q ≠ .spurReturn) (cs := cs) fun c hc => by
      rcases disposition_targets hdisposition c hc with h | ⟨h, -⟩ <;> rw [h] <;> simp
    have hbefore : PlacesAsAnswered s (false, (s.beforeClaims f cs).2) := by
      unfold State.beforeClaims
      split
      · split
        · exact placesAsAnswered_count_latch s _ _
        · exact placesAsAnswered_lost rfl rfl rfl
      · exact placesAsAnswered_lost rfl rfl rfl
    exact hbefore.both (placesAsAnswered_placeCopies _ _ _ _ _ htargets)

/-! ### The run that a WRITE opens, whatever its entry's action (R84) -/

theorem withFilter_gap_run (g : Digit) (r : RunRecord) (s : State) :
    withFilter g r s = { s with sup := { s.sup with gap := g }, run := r } := rfl

theorem broadcastEffect_same (s : State) (f : Frame) (adjust : Bool) :
    (s.broadcastEffect f adjust).merge = s.merge ∧ (s.broadcastEffect f adjust).spur = s.spur := by
  unfold State.broadcastEffect
  split
  · cases f.payload <;> exact ⟨rfl, rfl⟩
  · exact ⟨rfl, rfl⟩

/-- R84: what a WRITE does after its placement under a run gap is what it does under none, and the run that it opens. -/
theorem afterPlacement_write {u : State} {e : Entry} {f : Frame} {cell : Digit} {values : List Digit}
    (hpayload : f.payload = cell :: values) (g : Digit) (placed : Bool) :
    (withFilter g .closed u).afterPlacement e f false placed =
      withFilter g (if placed = true ∧ e.absorbRuns = true ∧ e.action ≠ .absorb ∧ g ≠ 0#4 then
        { isOpen := true, dest := f.dst, cell := cell, adjustTaken := false } else .closed) (if placed then u.broadcastEffect f false else u) := by
  cases placed with
  | false => simp [afterPlacement_lost]
  | true =>
    have hopen := openRun_of_placed (u := withFilter g .closed u) (e := e) rfl f.dst cell
    change State.broadcastEffect _ f false = _
    rw [hpayload]
    dsimp only
    rw [hopen, if_pos rfl]
    simp only [true_and]
    exact ignores_broadcastEffect f false g _ u

/-- Settles O20: the passed WRITE, and the general clause by the blocks that read no run gap. -/
theorem placedWritesOpenRuns : Obligations.PlacedWritesOpenRuns := by
  refine ⟨fun s f cell values e hquiet hears hforeign hkind hpayload hlen hdst hrun he hpass =>
    passed_write_opens_run hquiet hears hforeign hkind hpayload hlen hdst hrun he hpass, ?_⟩
  intro s f cell values e hquiet hears hforeign hkind hpayload hlen houtside he
  have hf : f.payload.length ≤ 15 := by
    rw [hpayload, List.length_cons]
    omega
  have hadjust : decide (f.kind = 0x1#4) = false := by
    rw [hkind]
    rfl
  have hanswer := placesAsAnswered_lookupAndPlace (s.heard .upstream) f
  have hgap : ((s.heard .upstream).lookupAndPlace f).2.sup.gap = s.sup.gap :=
    (works_lookupAndPlace (d := .nothing) (s.heard .upstream) hf).sameStates.gap
  have hnone := exec_candidate (s := { s with sup := { s.sup with gap := 0#4 } }) hquiet hears hforeign hf (.inl hkind) houtside
  have hsome := exec_candidate hquiet hears hforeign hf (.inl hkind) houtside
  have hlookup : (State.heard { s with sup := { s.sup with gap := 0#4 } } .upstream).lookupAndPlace f =
      (((s.heard .upstream).lookupAndPlace f).1, withFilter 0#4 .closed ((s.heard .upstream).lookupAndPlace f).2) :=
    ignoresPair_lookupAndPlace f 0#4 .closed (s.heard .upstream)
  rw [hlookup, hadjust, ← he] at hnone
  rw [hadjust, ← he] at hsome
  generalize (s.heard .upstream).lookupAndPlace f = r at hanswer hgap hnone hsome
  obtain ⟨placed, u⟩ := r
  dsimp only at hanswer hgap hnone hsome
  have hclosed : u.run = .closed := hanswer.run
  have hself : u = withFilter s.sup.gap .closed u := by
    rw [withFilter_gap_run, ← hgap, ← hclosed]
  rw [afterPlacement_write hpayload] at hnone
  rw [hself, afterPlacement_write hpayload] at hsome
  refine ⟨_, hnone, hsome.trans ?_⟩
  have hsame : (if placed then u.broadcastEffect f false else u).merge = u.merge ∧
      (if placed then u.broadcastEffect f false else u).spur = u.spur := by
    split
    · exact broadcastEffect_same u f false
    · exact ⟨rfl, rfl⟩
  have hplaced := hanswer.queues_ne_iff
  rw [State.heard_merge, show (s.heard .upstream).spur = s.spur from rfl] at hplaced
  dsimp only at hplaced
  generalize (if placed then u.broadcastEffect f false else u) = v at hsame
  rw [← hsame.1, ← hsame.2] at hplaced
  rw [← withFilter_gap_run]
  change _ = Host.Outcome.next (withFilter s.sup.gap (if (v.merge.transit ≠ s.merge.transit ∨ v.spur.queue ≠ s.spur.queue) ∧
    e.absorbRuns = true ∧ e.action ≠ .absorb ∧ s.sup.gap ≠ 0#4 then _ else _) v)
  rw [if_congr (and_congr_left' hplaced) rfl rfl]

/-! ### The open run (R85, R90) -/

theorem candidate_judged {s : State} {f : Frame} {cell : Digit} {rest : List Digit} (hpayload : f.payload = cell :: rest) (adjust : Bool) :
    s.candidate f adjust =
      match s.run.judge adjust f.dst cell with
      | (.absorb, _) => s.count .runAbsorbed
      | (.continue_, r) =>
        ((s.setRun r).lookupAndPlace f).2.afterPlacement (s.map.activeBank.entry f.dst) f adjust ((s.setRun r).lookupAndPlace f).1 := by
  unfold State.candidate
  rw [hpayload]
  dsimp only
  cases s.run.judge adjust f.dst cell with
  | mk answer r => cases answer <;> rfl

/-- R85: a frame of the open run is absorbed, but for its first ADJUST. -/
theorem judge_of_run {r : RunRecord} (hopen : r.isOpen = true) (adjust : Bool) :
    r.judge adjust r.dest r.cell =
      if adjust = true ∧ r.adjustTaken = false then (.continue_, { r with adjustTaken := true }) else (.absorb, r) := by
  cases adjust <;> cases htaken : r.adjustTaken <;> simp [RunRecord.judge, hopen, htaken]

/-- R85: the first ADJUST of a run is looked up and placed with the run marked. -/
theorem exec_first_adjust {s : State} {f : Frame} {rest : List Digit} (hquiet : s.Quiet) (hears : s.Hears .upstream)
    (hforeign : s.Foreign f) (hopen : s.run.isOpen = true) (hdst : f.dst = s.run.dest) (hpayload : f.payload = s.run.cell :: rest)
    (hlen : rest.length ≤ 14) (hkind : f.kind = 0x1#4) (htaken : s.run.adjustTaken = false) :
    exec (.takeFrame .upstream .ended f.digits) s = .next
      ((((s.arrived .upstream .reset).setRun { s.run with adjustTaken := true }).lookupAndPlace f).2.afterPlacement
        (s.map.activeBank.entry f.dst) f true
        (((s.arrived .upstream .reset).setRun { s.run with adjustTaken := true }).lookupAndPlace f).1) := by
  have hf : f.payload.length ≤ 15 := by
    rw [hpayload, List.length_cons]
    omega
  rw [exec_takeFrame_mainPath hquiet hears hforeign hf, candidate_of_kind _ (.inr hkind),
    show decide (f.kind = 0x1#4) = true by rw [hkind]; rfl, candidate_judged hpayload,
    show (s.arrived .upstream .reset).run = s.run from rfl, hdst, judge_of_run hopen, if_pos ⟨rfl, htaken⟩]
  rfl

/-- What an ADJUST does after its placement is the same whatever the run filter holds. -/
theorem afterPlacement_adjust (g : Digit) (r : RunRecord) (u : State) (e : Entry) (f : Frame) (placed : Bool) :
    (withFilter g r u).afterPlacement e f true placed = withFilter g r (u.afterPlacement e f true placed) := by
  cases placed with
  | false => rfl
  | true =>
    have hsame (x : State) : x.afterPlacement e f true true = x.broadcastEffect f true := by
      change State.broadcastEffect _ f true = _
      cases f.payload <;> rfl
    rw [hsame, hsame]
    exact ignores_broadcastEffect f true g r u

/-- Settles O21: what the run filter answers each frame of the open run. -/
theorem repeatsOfARunAreAbsorbed : Obligations.RepeatsOfARunAreAbsorbed := by
  refine ⟨fun s f rest hquiet hears hforeign hopen hdst hpayload hlen => ⟨fun hkind => ?_, fun hkind htaken hpass hbroadcast => ?_⟩,
    fun s f rest hquiet hears hforeign hopen hdst hpayload hlen hkind htaken => ?_⟩
  · have hf : f.payload.length ≤ 15 := by
      rw [hpayload, List.length_cons]
      omega
    have habsorbed : ¬(decide (f.kind = 0x1#4) = true ∧ s.run.adjustTaken = false) := by
      rintro ⟨hadjust, hnot⟩
      rcases hkind with hk | ⟨-, htaken⟩
      · rw [hk] at hadjust
        cases hadjust
      · rw [hnot] at htaken
        cases htaken
    refine ⟨_, exec_takeFrame_mainPath hquiet hears hforeign hf, ?_⟩
    rw [candidate_of_kind _ (hkind.imp_right And.left), candidate_judged hpayload,
      show (s.arrived .upstream .reset).run = s.run from rfl, hdst, judge_of_run hopen, if_neg habsorbed]
    exact counted_count _ _
  · refine ⟨_, exec_first_adjust hquiet hears hforeign hopen hdst hpayload hlen hkind htaken, ?_⟩
    rw [lookupAndPlace_candidate (s := (s.arrived .upstream .reset).setRun _) (.inr hkind) rfl (disposition_pass _ (.inr hpass)),
      afterPlacement_of_mapped (.inr hbroadcast) (.inl rfl)]
    exact claimed_claimFor _ _ _
  · have hf : f.payload.length ≤ 15 := by
      rw [hpayload, List.length_cons]
      omega
    have hclosed := exec_candidate (s := { s with run := .closed }) hquiet hears hforeign hf (.inr hkind) (.inl rfl)
    rw [show decide (f.kind = 0x1#4) = true by rw [hkind]; rfl] at hclosed
    refine ⟨_, hclosed, ?_⟩
    rw [exec_first_adjust hquiet hears hforeign hopen hdst hpayload hlen hkind htaken]
    generalize ({ s.run with adjustTaken := true } : RunRecord) = r
    have hmarked : (s.arrived .upstream .reset).setRun r = withFilter s.sup.gap r (s.heard .upstream) := by
      rw [← arrived_withoutRun (settled_of_hears hears)]
      rfl
    have hlookup : (withFilter s.sup.gap r (s.heard .upstream)).lookupAndPlace f =
        (((s.heard .upstream).lookupAndPlace f).1, withFilter s.sup.gap r ((s.heard .upstream).lookupAndPlace f).2) :=
      ignoresPair_lookupAndPlace f _ _ _
    have hgap : (((s.heard .upstream).lookupAndPlace f).2.afterPlacement (s.map.activeBank.entry f.dst) f true
        ((s.heard .upstream).lookupAndPlace f).1).sup.gap = s.sup.gap :=
      ((works_lookupAndPlace (d := .nothing) (s.heard .upstream) hf).trans
        (works_afterPlacement (by rw [(works_lookupAndPlace (d := .nothing) (s.heard .upstream) hf).sameStates.up]; exact hears.2.2)
          (s.map.activeBank.entry f.dst) f true _)).sameStates.gap
    change _ = Host.Outcome.next { ((s.heard .upstream).lookupAndPlace f).2.afterPlacement (s.map.activeBank.entry f.dst) f true
        ((s.heard .upstream).lookupAndPlace f).1 with run := r }
    rw [hmarked, hlookup, afterPlacement_adjust, withFilter_gap_run, ← hgap]

end Sys2Proof.Proofs

/-! ## Records in broadcast POLLs (R123, R129, R130) -/

namespace Sys2Proof.Proofs

open Sys2Proof Sys2Proof.Machine

/-- A broadcast POLL that a part with an own address adds records to (R129). -/
structure TakesRecords (s : State) (f : Frame) : Prop where
  addressed : s.adr ≠ Config.broadcast
  kind : f.kind = 0x6#4
  dst : f.dst = Config.broadcast
  legal : f.payload.length ∈ [0, 4, 8, 12]

/-- R129, R130: the copy that is named for records is placed with them. -/
theorem enterCopy_records {s : State} {f : Frame} (h : TakesRecords s f) {q : Target} {alone : Bool} (hnamed : alone = true ∨ q = .transit)
    (hop : List Digit) (flag : Bool) :
    s.enterCopy hop alone f { target := q, dst := f.dst, translate := flag } =
      (if s.pollLines f = [] then s else s.setLines (s.line.record (s.pollLines f))).enter q
        [{ digits := (s.pollWithRecords f).digits, tag := if s.pollLines f = [] then .none else .report (s.pollLines f) }] := by
  have hcarries : s.carriesRecords f alone { target := q, dst := f.dst, translate := flag } = true := by
    have hlegal : legalPoll f = true := by simpa [legalPoll] using h.legal
    simp [State.carriesRecords, State.addressed, h.addressed, h.dst, (kindOf_poll_iff _).mpr h.kind, hlegal, hnamed]
  by_cases hnone : s.pollLines f = []
  · have hkind : kindOf f.kind = .poll := (kindOf_poll_iff _).mpr h.kind
    have hplain : s.pollWithRecords f = f := by
      unfold State.pollWithRecords
      rw [hnone, List.flatMap_nil, List.append_nil]
    simp only [State.enterCopy, hcarries, hnone, List.isEmpty_nil, Bool.not_true, Bool.and_false, Bool.false_eq_true, if_false, hkind,
      reduceCtorEq, decide_false, Bool.false_and, if_true, hplain]
    rfl
  · have hsome : (s.pollLines f).isEmpty = false := by simpa [List.isEmpty_iff] using hnone
    simp only [State.enterCopy, hcarries, hsome, Bool.not_false, Bool.and_true, if_true, if_neg hnone]

/-- R28: a copy that keeps its destination and is not translated. -/
theorem placeCopy_plain {s : State} {e : Entry} {hop : List Digit} {alone : Bool} {f : Frame} {c : Copy} (hdst : c.dst = f.dst)
    (hflag : c.translate = false) : s.placeCopy e hop alone f c =
      if s.claim c.target 1 then (true, s.enterCopy hop alone f c) else (false, s.overrun c.target) := by
  simp [State.placeCopy, hdst, hflag]

/-- R123, R129, R130: a copy that is named for records is placed with them, or lost with no line moved. -/
theorem recordsPlaced_placeCopy {s : State} {f : Frame} (h : TakesRecords s f) {e : Entry} {q : Target} {alone : Bool}
    (hnamed : alone = true ∨ q = .transit) (hop : List Digit) :
    recordsPlaced s (s.placeCopy e hop alone f (claimedCopy f (copyTo e f q f.dst))).2 q f (s.pollLines f) := by
  have hflag : (claimedCopy f (copyTo e f q f.dst)).translate = false := by
    simp [claimedCopy, copyTo, h.kind]
  have hplaced : s.placeCopy e hop alone f (claimedCopy f (copyTo e f q f.dst)) =
      if s.claim q 1 then (true, s.enterCopy hop alone f (claimedCopy f (copyTo e f q f.dst))) else (false, s.overrun q) :=
    placeCopy_plain rfl hflag
  refine ⟨fun hroom => ?_, fun hroom => ?_⟩
  · rw [hplaced, if_pos ((claim_iff_room _ _ _).mpr hroom)]
    refine ⟨if s.pollLines f = [] then s.line else s.line.record (s.pollLines f), ?_, ?_, fun l => ?_⟩
    · have henter := enterCopy_records h hnamed hop (claimedCopy f (copyTo e f q f.dst)).translate
      change Placed _ (s.enterCopy hop alone f _) _ _
      rw [show claimedCopy f (copyTo e f q f.dst) =
        { target := q, dst := f.dst, translate := (claimedCopy f (copyTo e f q f.dst)).translate } from rfl, henter]
      have hstate : { s with line := if s.pollLines f = [] then s.line else s.line.record (s.pollLines f) } =
          if s.pollLines f = [] then s else s.setLines (s.line.record (s.pollLines f)) := by
        split <;> rfl
      rw [hstate]
      exact placed_enter _ _ _
    · split
      · rfl
      · exact record_eq _ _
    · by_cases hnone : s.pollLines f = []
      · rw [if_pos hnone, hnone]
        rfl
      · rw [if_neg hnone, LineBlock.catchOf_record]
        rfl
  · rw [hplaced, if_neg fun hc => hroom ((claim_iff_room _ _ _).mp hc)]
    exact reported_overrun s q

theorem pollLines_eq (s : State) (f : Frame) : s.pollLines f =
    ((List.finRange 13).filter fun l => (s.line.catchOf l).state = .caught).take ((15 - f.payload.length) / 4) := rfl

/-- Settles O22: the copy named for records, and the mirrored copy that carries none. -/
theorem broadcastPollsCarryRecords : Obligations.BroadcastPollsCarryRecords := by
  intro s f ls e hquiet hears haddr hsrc hkind hdst hlegal he hls
  have hf : f.payload.length ≤ 15 := by
    simp only [List.mem_cons, List.not_mem_nil, or_false] at hlegal
    omega
  have htakes : TakesRecords (s.heard .upstream) f := ⟨haddr, hkind, hdst, hlegal⟩
  have hlines : ls = (s.heard .upstream).pollLines f := by rw [hls, pollLines_eq, State.heard_line]
  have hasks : ¬asksTranslation e f := fun h => absurd (hkind.symm.trans h.1) (by decide)
  have hexec : exec (.takeFrame .upstream .ended f.digits) s = .next ((s.heard .upstream).lookupAndPlace f).2 := by
    rw [exec_takeFrame_mainPath hquiet hears (foreign_of_broadcast haddr hsrc hdst) hf,
      ← show (s.arrived .upstream .reset).closeRun = s.heard .upstream from arrived_withoutRun (settled_of_hears hears), State.mainPath,
      (kindOf_poll_iff _).mpr hkind]
  rw [← hdst] at he
  have hcopies {cs : List Copy} (h : e.disposition s.spur.state (kindOf f.kind) f.dst = .copies cs) (hne : cs ≠ [])
      (hflags : ∀ c ∈ cs, c.translate = decide (asksTranslation e f)) :=
    lookupAndPlace_copies (s := s.heard .upstream) he h hne hflags
  have hone {q : Target} (h : e.disposition s.spur.state (kindOf f.kind) f.dst = .copies [copyTo e f q f.dst]) :
      recordsPlaced (s.heard .upstream) ((s.heard .upstream).lookupAndPlace f).2 q f ls := by
    rw [hcopies h (by simp) (by simp [copyTo]), translationTold_of_not hasks, hlines]
    exact recordsPlaced_placeCopy htakes (.inl rfl) _
  refine ⟨_, hexec, fun h => hone (disposition_transit h), fun hnamed haction hclosed => hone (disposition_spurOut hnamed haction hclosed),
    fun hnamed haction hclosed => ?_, fun hnamed haction => ?_⟩
  · have hworks : Works .nothing (s.heard .upstream) ((s.heard .upstream).placeCopy e (s.heard .upstream).hopRecord false f
        (claimedCopy f (copyTo e f .transit f.dst))).2 := works_placeCopy hf rfl (.inl rfl)
    have hsecond := placeCopy_eq (s := s.heard .upstream) (e := e) (alone := false) (f := f) (q := .spurOut) (dst := f.dst) hworks.sameStates
      (not_staysOff_same _ f) (by simp [State.carriesRecords, claimedCopy, copyTo])
    have hsent : sentAs (s.heard .upstream) e f = [untagged f] := by
      rw [sentAs, if_neg hasks, if_neg fun h => absurd (hkind.symm.trans h.1) (by decide)]
    rw [hcopies (disposition_mirrored hnamed haction hclosed) (by simp) (by simp [copyTo]), translationTold_of_not hasks, hlines]
    refine ⟨_, recordsPlaced_placeCopy htakes (.inr rfl) (s.heard .upstream).hopRecord (e := e) (alone := false), ?_⟩
    have hclaimed := claimed_claimFor ((s.heard .upstream).placeCopy e (s.heard .upstream).hopRecord false f
      (claimedCopy f (copyTo e f .transit f.dst))).2 .spurOut (sentAs (s.heard .upstream) e f)
    rw [← hsecond, hsent] at hclaimed
    exact hclaimed
  · rw [lookupAndPlace_absorbed (s := s.heard .upstream) (by rw [State.heard_map, ← he]; exact disposition_absorbed hnamed haction)]
    exact counted_count _ _

end Sys2Proof.Proofs

/-! ## Management commands: what they read and set (R18, R19, R133, R138, R142 to R153) -/

namespace Sys2Proof.Proofs

open Sys2Proof Sys2Proof.Machine

/-! ### Answers -/

/-- R144: the row of a command that a part manages, answered by its execution, ends with its answer. -/
theorem exec_answered {s u : State} {q : Requester} {c : Instr} {code status : Digit} {args data : List Digit} {command : Command}
    (h : s.Manages q) (hc : ownFrameOf c = some (q, 0x8#4, code :: args)) (hp : args.length ≤ 14)
    (hparse : parseCommand s.adr code args = .command command)
    (he : (s.heard q.port).execute ⟨0x8#4, s.adr, q.src, q.seq, code :: args⟩ command =
      u.answerWith ⟨0x8#4, s.adr, q.src, q.seq, code :: args⟩ status data)
    (hu : u.mgmt.commit = none) : exec c s = .next (u.answered q.src q.seq code status data) := by
  rw [exec_eq_takeFrame hc, State.settled_of_quiet h.1.1]
  exact congrArg _ (State.manageFrom_answered h hp hparse he hu)

theorem commit_of_manages {s : State} {q : Requester} (h : s.Manages q) : (s.heard q.port).mgmt.commit = none := by
  rw [State.heard_mgmt, h.1.2.1.2.1]

/-- R143: arguments in range make the command. -/
theorem unless_of_false {bad : Bool} (h : bad = false) (c : Command) : Parsed.unless bad c = .command c := by
  rw [h]
  rfl

theorem badRow_eq_true_iff (d : Digit) : badRow d = true ↔ 7 < d.toNat := by
  revert d; decide

theorem digit_lt_iff (a b : Digit) : a < b ↔ a.toNat < b.toNat := BitVec.lt_def

/-! ### SET OPTIONS and SET MANAGER (R151, R153, R170) -/

theorem parse_setOptions {own : Addr} {policy gap silence : Digit} (hpolicy : policy.toNat ≤ 1) (hsilence : silence ≠ 0#4) :
    parseCommand own 0xE#4 [policy, gap, silence] =
      .command (.setOptions (if policy = 1#4 then .drop else .forward) gap silence) :=
  unless_of_false (by simp [digit_lt_iff, hsilence, hpolicy]) _

theorem parse_setManager {own : Addr} {slot present row col : Digit} {a : Option Addr} (hslot : slot.toNat ≤ 1)
    (ha : present = 0#4 ∧ a = none ∨
      present = 1#4 ∧ row.toNat ≤ 7 ∧ addrOf row col ≠ own ∧ addrOf row col ≠ Config.broadcast ∧ a = some (addrOf row col)) :
    parseCommand own 0xF#4 [slot, present, row, col] = .command (.setManager (slot = 1#4) a) := by
  rcases ha with ⟨rfl, rfl⟩ | ⟨rfl, hrow, hown, hbroadcast, rfl⟩
  · exact unless_of_false (by simp [digit_lt_iff, hslot]) _
  · exact unless_of_false (by simp [digit_lt_iff, hslot, (badRow_eq_false_iff row).mpr hrow, hown, hbroadcast]) _

/-- Settles O40: each command's arguments, its execution, and its answer. -/
theorem setOptionsAndSetManagerSetTheirFields : Obligations.SetOptionsAndSetManagerSetTheirFields := by
  refine fun s q h => ⟨fun policy gap silence hpolicy hsilence => ?_, fun slot present row col a hslot ha => ?_⟩
  · exact exec_answered (c := .setOptions q policy gap silence) h rfl (by simp) (parse_setOptions hpolicy hsilence) rfl (commit_of_manages h)
  · have hset : (s.heard q.port).setMgmt ((s.heard q.port).mgmt.setManager (slot = 1#4) a) =
        { s.heard q.port with mgmt := if slot = 1#4 then { s.mgmt with manager1 := a } else { s.mgmt with manager0 := a } } := by
      rw [State.heard_mgmt, Management.setManager]
      simp only [decide_eq_true_eq]
      rfl
    rw [← hset]
    refine exec_answered (c := .setManager q slot present row col) h rfl (by simp) (parse_setManager hslot ha) rfl ?_
    rw [State.setMgmt_mgmt, Management.setManager, State.heard_mgmt]
    split <;> exact h.1.2.1.2.1

/-! ### SET SPUR, enable 1h (R107, R152, R163) -/

theorem parse_setSpur {own : Addr} (enable : Bool) {watch : Digit} (hwatch : watch ≠ 0#4) :
    parseCommand own 0xD#4 [if enable then 1#4 else 0#4, watch] = .command (.setSpur enable watch) := by
  cases enable
  · exact unless_of_false (by simp [hwatch]) _
  · exact unless_of_false (by simp [hwatch]) _

/-- Settles O38: a DISABLED spur is enabled, and any other has its watch time set. -/
theorem setSpurEnableEnablesOrSetsTheWatchTime : Obligations.SetSpurEnableEnablesOrSetsTheWatchTime := by
  intro s q watch h hwatch
  have hanswered (u : State) (hu : (s.heard q.port).enableSpur watch = u) (hcommit : u.mgmt.commit = none) :=
    exec_answered (u := u) (c := .setSpurEnable q watch) (status := 0#4) (data := []) h rfl (by simp) (parse_setSpur true hwatch)
      (by rw [← hu]; rfl) hcommit
  refine ⟨fun hdisabled => hanswered _ ?_ (commit_of_manages h), fun henabled => hanswered _ ?_ (commit_of_manages h)⟩
  · have hport : q.port ≠ .spur := fun hp => by
      have hhears := h.1.2.1.2.2
      rw [hp] at hhears
      exact absurd (hdisabled.symm.trans hhears) (by simp)
    have hspur : (s.heard q.port).spur = s.spur := by
      cases hp : q.port with
      | upstream => rfl
      | spur => exact absurd hp hport
    rw [State.enableSpur, hspur, if_pos hdisabled]
    rfl
  · have hspur : (s.heard q.port).spur.state ≠ .disabled := by rwa [State.heard_spur_state]
    rw [State.enableSpur, if_neg hspur]
    rfl

/-! ### CLEAR (R150, R169) -/

theorem parse_clear {own : Addr} {selection : Digit} (h : selection.toNat ≤ 3) :
    parseCommand own 0xA#4 [selection] = .command (.clear selection) :=
  unless_of_false (by simpa [digit_lt_iff] using h) _

/-- Settles O35: the bits of the selection digit. -/
theorem clearClearsWhatItSelects : Obligations.ClearClearsWhatItSelects := by
  intro s q both h
  refine ⟨tabulate fun _ => 0#8, fun i => tabulate_getElem _ i, ?_, ?_⟩
  · have hanswered := exec_answered (u := (s.heard q.port).setSup ((s.heard q.port).sup.clear (if both then 3#4 else 1#4)))
      (c := .clearFaultLatches q both) (status := 0#4) (data := []) h rfl (by simp)
      (parse_clear (by cases both <;> decide)) rfl (commit_of_manages h)
    rw [hanswered, ← State.heard_sup_counters s q.port]
    cases both <;> rfl
  · have hanswered := exec_answered (u := (s.heard q.port).setSup ((s.heard q.port).sup.clear (if both then 3#4 else 2#4)))
      (c := .clearCounters q both) (status := 0#4) (data := []) h rfl (by simp)
      (parse_clear (by cases both <;> decide)) rfl (commit_of_manages h)
    rw [hanswered, ← State.heard_sup_latches s q.port]
    cases both <;> rfl

/-! ### Reads (R45, R65, R147, R149, R150) -/

theorem bankOf_eq (m : MapStore) {bank : Digit} : m.bankOf (bank = 1#4) = if bank = 1#4 then m.stagingBank else m.activeBank := by
  simp [MapStore.bankOf]

theorem readPatterns_eq (b : Bank) (p : Fin 8) (i k : Nat) :
    (b.readPatterns p i k).flatMap byteDigits = (List.range k).flatMap fun j => byteDigits (b.pattern p (i + j)) := by
  rw [Bank.readPatterns, List.range'_eq_map_range, List.map_map, List.flatMap_map]
  rfl

theorem parse_readEntry {own : Addr} {bank row col : Digit} (hbank : bank.toNat ≤ 1) (hrow : row.toNat ≤ 7) :
    parseCommand own 0x6#4 [bank, row, col] = .command (.readEntry (bank = 1#4) (addrOf row col)) :=
  unless_of_false (by simp [digit_lt_iff, hbank, (badRow_eq_false_iff row).mpr hrow]) _

theorem parse_readPatterns {own : Addr} {bank page ih il count : Digit} (hbank : bank.toNat ≤ 1) (hpage : page.toNat ≤ 7)
    (h1 : 1 ≤ count.toNat) (h6 : count.toNat ≤ 6) (hin : 16 * ih.toNat + il.toNat + count.toNat ≤ 32) :
    parseCommand own 0x7#4 [bank, page, ih, il, count] =
      .command (.readPatterns (bank = 1#4) (pageOf page) (indexOf ih il) count.toNat) := by
  have hcount : count ≠ 0#4 := fun h0 => by
    rw [h0] at h1
    exact absurd h1 (by decide)
  have hbank' : ¬1#4 < bank := by rw [digit_lt_iff]; exact Nat.not_lt.mpr hbank
  have hpage' : ¬7#4 < page := by rw [digit_lt_iff]; exact Nat.not_lt.mpr hpage
  have hcount' : ¬6#4 < count := by rw [digit_lt_iff]; exact Nat.not_lt.mpr h6
  have hindex : ¬0x1F < indexOf ih il := by unfold indexOf; omega
  have hlast : ¬32 < indexOf ih il + count.toNat := by unfold indexOf; omega
  exact unless_of_false (by simp only [hbank', hpage', hcount', hcount, hindex, hlast, decide_false, Bool.or_self]) _

theorem parse_readCounters {own : Addr} {group : Digit} (h : group.toNat ≤ 2) :
    parseCommand own 0x9#4 [group] = .command (.readCounters ⟨group.toNat % 3, by omega⟩) :=
  unless_of_false (by simpa [digit_lt_iff] using h) _

/-- R19, R149: the eight digits of STATUS. -/
theorem statusData_eq (s : State) : s.statusData =
    [s.map.generation, (match s.sup.up with | .live => 0#4 | .silent => 1#4),
      (match s.spur.state with | .disabled => 0#4 | .closed => 1#4 | .opened => 2#4),
      digitOfBits (s.sup.isSet .transitOverrun) (s.sup.isSet .spurOverrun) (s.sup.isSet .localOverrun)
        (s.sup.isSet .mgmtOverrun),
      digitOfBits (s.sup.isSet .lineError) (s.sup.isSet .damageSeen) (s.sup.isSet .localAccessError)
        (s.sup.isSet .condition),
      (match s.line.reportMode with | .poll => 0#4 | .event => 1#4),
      BitVec.ofNat 4 ((if s.mgmt.manager0 = none then 0 else 1) + (if s.mgmt.manager1 = none then 0 else 1)),
      BitVec.ofNat 4 s.merge.transit.length] := by
  have hhigh (v : BitVec 8) : highDigit v = digitOfBits (v.getLsbD 4) (v.getLsbD 5) (v.getLsbD 6) (v.getLsbD 7) := by
    revert v; decide
  have hlow (v : BitVec 8) : lowDigit v = digitOfBits (v.getLsbD 0) (v.getLsbD 1) (v.getLsbD 2) (v.getLsbD 3) := by
    revert v; decide
  have hslots : s.mgmt.slotsInUse = (if s.mgmt.manager0 = none then 0 else 1) + (if s.mgmt.manager1 = none then 0 else 1) := by
    unfold Management.slotsInUse
    cases s.mgmt.manager0 <;> cases s.mgmt.manager1 <;> rfl
  rw [State.statusData, hhigh, hlow, hslots]
  unfold upDigit spurDigit
  cases s.sup.up <;> cases s.spur.state <;> cases s.line.reportMode <;> rfl

theorem counterData_eq (s : State) {group : Digit} {cs : List Counter}
    (h : group = 0#4 ∧ cs = [.damaged, .malformed, .transitOverrun, .spurOverrun] ∨
      group = 1#4 ∧ cs = [.runAbsorbed, .mapAbsorbed, .returned, .misdirected] ∨
      group = 2#4 ∧ cs = [.localRefused, .mgmtDropped, .changes, .translated]) :
    s.counterData ⟨group.toNat % 3, by omega⟩ = cs.flatMap fun c => byteDigits (s.sup.countOf c) := by
  rcases h with ⟨rfl, rfl⟩ | ⟨rfl, rfl⟩ | ⟨rfl, rfl⟩ <;> rfl

/-- Settles O34: each read answers what the blocks hold, which hearing the frame has not changed. -/
theorem readsAreAnsweredAndChangeNothing : Obligations.ReadsAreAnsweredAndChangeNothing := by
  refine fun s q h => ⟨fun bank row col hbank hrow => ?_, fun bank page ih il count index p hbank hp hindex h1 h6 hin => ?_, ?_,
    fun group cs hcs => ?_⟩
  · rw [exec_answered (u := s.heard q.port) (c := .readEntry q bank row col) (status := 0#4) h rfl (by simp) (parse_readEntry hbank hrow) rfl
      (commit_of_manages h), State.heard_map, bankOf_eq]
  · have hpage : page.toNat ≤ 7 := by omega
    have hpageOf : pageOf page = p := Fin.ext (by simp only [pageOf]; omega)
    rw [exec_answered (u := s.heard q.port) (c := .readPatterns q bank page ih il count) (status := 0#4) h rfl (by simp)
      (parse_readPatterns hbank hpage h1 h6 (by omega)) rfl (commit_of_manages h), State.heard_map, bankOf_eq, readPatterns_eq,
      hpageOf, hindex]
    rfl
  · rw [exec_answered (u := s.heard q.port) (c := .status q) (status := 0#4) (code := 0x8#4) (args := []) h rfl (by simp) rfl rfl (commit_of_manages h),
      statusData_eq]
    cases q.port <;> rfl
  · have hgroup : group.toNat ≤ 2 := by
      rcases hcs with ⟨rfl, -⟩ | ⟨rfl, -⟩ | ⟨rfl, -⟩ <;> decide
    rw [exec_answered (u := s.heard q.port) (c := .readCounters q group) (status := 0#4) h rfl (by simp) (parse_readCounters hgroup) rfl
      (commit_of_manages h), counterData_eq _ hcs]
    simp only [Supervision.countOf, State.heard_sup_counters]

end Sys2Proof.Proofs

/-! ## Loads (R43, R44, R64, R66) -/

namespace Sys2Proof.Proofs

open Sys2Proof Sys2Proof.Machine

/-! ### The stored form (R43) -/

/-- R43: the stored form of digits in range, read back. -/
theorem toDigits_storedForm {e : EntryDigits} (h : entryInRange e) : (storedForm e).toDigits = storedDigits e := by
  have hactions : ∀ a : Digit, a.toNat ≤ 4 → a = 0#4 ∨ a = 1#4 ∨ a = 2#4 ∨ a = 3#4 ∨ a = 4#4 := by decide
  have hselectors : ∀ x : Digit, x.toNat ≤ 3 → (x.setWidth 2).setWidth 4 = x := by decide
  have hmodifiers : ∀ x : Digit, x.toNat ≤ 7 → (x.setWidth 3).setWidth 4 = x := by decide
  have hoptions : ∀ o : Digit,
      digitOfBits (o.getLsbD 0) (o.getLsbD 1) false false = o &&& 0x3#4 ∧
      digitOfBits (o.getLsbD 0) (o.getLsbD 1) (o.getLsbD 2) (o.getLsbD 2 && o.getLsbD 3) =
        (if o.getLsbD 2 then o &&& 0xF#4 else o &&& 0x3#4) ∧
      digitOfBits (o.getLsbD 0) (o.getLsbD 1) false (o.getLsbD 3) = o &&& 0xB#4 := by decide
  obtain ⟨action, selector, rowModifier, columnStep, options, page⟩ := e
  obtain ⟨haction, hselector, hmodifier⟩ := h
  obtain ⟨hthree, hremap, hdivert⟩ := hoptions options
  dsimp only at haction hselector hmodifier
  have hs := hselectors _ hselector
  have hm := hmodifiers _ hmodifier
  rcases hactions _ haction with rfl | rfl | rfl | rfl | rfl
  · change [0#4, (selector.setWidth 2).setWidth 4, _, _, digitOfBits (options.getLsbD 0) (options.getLsbD 1) false false, _] = _
    rw [hs, hthree]
    simp [storedDigits, storedForm, actionOf, Entry.zero]
  · change [1#4, (selector.setWidth 2).setWidth 4, (rowModifier.setWidth 3).setWidth 4, columnStep,
      digitOfBits (options.getLsbD 0) (options.getLsbD 1) (options.getLsbD 2) (options.getLsbD 2 && options.getLsbD 3), _] = _
    rw [hs, hm, hremap]
    simp [storedDigits, storedForm, actionOf]
  · change [2#4, (selector.setWidth 2).setWidth 4, _, _, digitOfBits (options.getLsbD 0) (options.getLsbD 1) false (options.getLsbD 3), _] = _
    rw [hs, hdivert]
    simp [storedDigits, storedForm, actionOf, Entry.zero]
  · change [3#4, (selector.setWidth 2).setWidth 4, _, _, digitOfBits (options.getLsbD 0) (options.getLsbD 1) false false, _] = _
    rw [hs, hthree]
    simp [storedDigits, storedForm, actionOf, Entry.zero]
  · change [4#4, _, _, 0#4, digitOfBits false false false false, 0#4] = _
    simp [storedDigits, storedForm, actionOf, Entry.zero, show digitOfBits false false false false = 0#4 by decide]

/-! ### Banks (R44) -/

theorem stagingBank_wf {m : MapStore} (h : m.bankA.wf = true ∧ m.bankB.wf = true) : m.stagingBank.wf = true := by
  unfold MapStore.stagingBank
  cases m.active
  · exact h.2
  · exact h.1

/-- R44: a staging bank that has the pages of the old one. -/
theorem sameButStagedEntries_setStaging (m : MapStore) {b : Bank} (hvalid : b.valid = m.stagingBank.valid)
    (hpattern : ∀ p i, b.pattern p i = m.stagingBank.pattern p i) : sameButStagedEntries m (m.setStaging b) := by
  refine ⟨by simp, by simp, by simp, ?_, fun p i => ?_⟩
  · rw [MapStore.stagingBank_setStaging, hvalid]
  · rw [MapStore.stagingBank_setStaging, hpattern]

/-- R44: one entry stored at each column of a list. -/
def storedColumns (b : Bank) (row : Digit) (e : Entry) (cols : List Nat) : Bank :=
  cols.foldl (fun b col => b.setEntry (addrOf row (digitOf col)) e) b

theorem storedColumns_spec {b : Bank} (hb : b.wf = true) (row : Digit) (e : Entry) (cols : List Nat) :
    (storedColumns b row e cols).valid = b.valid ∧ (∀ p i, (storedColumns b row e cols).pattern p i = b.pattern p i) ∧
    ∀ a, (storedColumns b row e cols).entry a = if ∃ col ∈ cols, a = addrOf row (digitOf col) then e else b.entry a := by
  induction cols generalizing b with
  | nil => exact ⟨rfl, fun _ _ => rfl, fun a => by simp [storedColumns]⟩
  | cons col rest ih =>
    obtain ⟨hvalid, hpattern, hentry⟩ := ih (Bank.wf_setEntry hb (addrOf row (digitOf col)) e)
    refine ⟨hvalid, hpattern, fun a => ?_⟩
    change (storedColumns (b.setEntry (addrOf row (digitOf col)) e) row e rest).entry a = _
    rw [hentry, Bank.entry_setEntry hb]
    by_cases hrest : ∃ c ∈ rest, a = addrOf row (digitOf c)
    · obtain ⟨c, hc, ha⟩ := hrest
      rw [if_pos ⟨c, hc, ha⟩, if_pos ⟨c, List.mem_cons_of_mem _ hc, ha⟩]
    · rw [if_neg hrest]
      refine if_congr ⟨fun ha => ⟨col, List.mem_cons_self .., ha⟩, ?_⟩ rfl rfl
      rintro ⟨c, hc, ha⟩
      rcases List.mem_cons.mp hc with rfl | hc
      · exact ha
      · exact absurd ⟨c, hc, ha⟩ hrest

/-! ### LOAD ENTRY and LOAD BLOCK -/

theorem badEntry_of_inRange {e : EntryDigits} (h : entryInRange e) : badEntry e = false := by
  obtain ⟨haction, hselector, hmodifier⟩ := h
  simp [badEntry, digit_lt_iff, haction, hselector, hmodifier]

theorem parse_loadEntry {own : Addr} {row col : Digit} {e : EntryDigits} (hrow : row.toNat ≤ 7) (he : entryInRange e) :
    parseCommand own 0x1#4 [row, col, e.action, e.selector, e.rowModifier, e.columnStep, e.options, e.page] =
      .command (.loadEntry (addrOf row col) (storedForm e)) :=
  unless_of_false (by rw [(badRow_eq_false_iff row).mpr hrow, badEntry_of_inRange he]; rfl) _

theorem parse_loadBlock {own : Addr} {row col last : Digit} {e : EntryDigits} (hrow : row.toNat ≤ 7) (he : entryInRange e)
    (hlast : col.toNat ≤ last.toNat) :
    parseCommand own 0x2#4 [row, col, last, e.action, e.selector, e.rowModifier, e.columnStep, e.options, e.page] =
      .command (.loadBlock (addrOf row col) last (storedForm e)) := by
  have hcols : decide (last < col) = false := decide_eq_false (by rw [digit_lt_iff]; exact Nat.not_lt.mpr hlast)
  exact unless_of_false (by rw [(badRow_eq_false_iff row).mpr hrow, badEntry_of_inRange he, hcols]; rfl) _

/-- The address of a row's column. -/
theorem eq_addrOf_iff {row : Digit} (hrow : row.toNat ≤ 7) (a : Addr) (col : Digit) :
    a = addrOf row col ↔ rowOf a = row ∧ colOf a = col := by
  constructor
  · rintro rfl
    exact ⟨rowOf_addrOf row col ((badRow_eq_false_iff row).mpr hrow), colOf_addrOf row col⟩
  · rintro ⟨rfl, rfl⟩
    exact (addrOf_rowOf_colOf a).symm

/-- Settles O28: the one entry, and the entries of a row's columns. -/
theorem loadsStoreStagedEntries : Obligations.LoadsStoreStagedEntries := by
  intro s q row col last e h hcanonical hrow he
  have hwf := stagingBank_wf hcanonical
  refine ⟨⟨s.map.loadEntry (addrOf row col) (storedForm e), ?_, ?_, ?_, fun a ha => ?_⟩, fun hlast =>
    ⟨s.map.loadBlock (addrOf row col) last (storedForm e), ?_, ?_, fun a => ?_⟩⟩
  · rw [← State.heard_map s q.port]
    exact exec_answered (c := .loadEntry q row col e) h rfl (by simp) (parse_loadEntry hrow he) rfl (commit_of_manages h)
  · exact sameButStagedEntries_setStaging _ rfl fun _ _ => rfl
  · rw [MapStore.loadEntry, MapStore.stagingBank_setStaging, Bank.entry_setEntry hwf, if_pos rfl, toDigits_storedForm he]
  · rw [MapStore.loadEntry, MapStore.stagingBank_setStaging, Bank.entry_setEntry hwf, if_neg ha]
  · rw [← State.heard_map s q.port]
    exact exec_answered (c := .loadBlock q row col last e) h rfl (by simp) (parse_loadBlock hrow he hlast) rfl (commit_of_manages h)
  all_goals
    have hblock := storedColumns_spec hwf (rowOf (addrOf row col)) (storedForm e)
      (List.range' (colOf (addrOf row col)).toNat (last.toNat + 1 - (colOf (addrOf row col)).toNat))
    obtain ⟨hvalid, hpattern, hentry⟩ := hblock
  · exact sameButStagedEntries_setStaging _ hvalid hpattern
  · have hcolumns : (∃ c ∈ List.range' col.toNat (last.toNat + 1 - col.toNat), a = addrOf row (digitOf c)) ↔
        rowOf a = row ∧ col.toNat ≤ (colOf a).toNat ∧ (colOf a).toNat ≤ last.toNat := by
      simp only [eq_addrOf_iff hrow, List.mem_range'_1]
      constructor
      · rintro ⟨c, hc, hrowOf, hcolOf⟩
        have hc16 : (digitOf c).toNat = c := by
          rw [digitOf, BitVec.toNat_ofNat]
          omega
        rw [hcolOf, hc16]
        exact ⟨hrowOf, by omega, by omega⟩
      · rintro ⟨hrowOf, hlow, hhigh⟩
        exact ⟨(colOf a).toNat, by omega, hrowOf, by rw [digitOf, BitVec.ofNat_toNat, BitVec.setWidth_eq]⟩
    rw [rowOf_addrOf row col ((badRow_eq_false_iff row).mpr hrow), colOf_addrOf] at hentry
    have hread : (s.map.loadBlock (addrOf row col) last (storedForm e)).stagingBank.entry a =
        if rowOf a = row ∧ col.toNat ≤ (colOf a).toNat ∧ (colOf a).toNat ≤ last.toNat then storedForm e
        else s.map.stagingBank.entry a := by
      rw [← if_congr hcolumns rfl rfl, ← hentry, MapStore.loadBlock, MapStore.stagingBank_setStaging,
        rowOf_addrOf row col ((badRow_eq_false_iff row).mpr hrow), colOf_addrOf]
      rfl
    rw [hread]
    exact ⟨fun hin => by rw [if_pos hin, toDigits_storedForm he], fun hout => if_neg hout⟩

/-! ### LOAD PATTERNS (R63, R64, R66) -/

theorem putPatterns_spec {b : Bank} (hb : b.wf = true) (p : Fin 8) (index : Nat) (vs : List Pattern) (hin : index + vs.length ≤ 32) :
    (∀ a, (b.putPatterns p index vs).entry a = b.entry a) ∧ (∀ q, (b.putPatterns p index vs).isValid q = b.isValid q) ∧
    ∀ (q : Fin 8) (i : Nat), i < 32 → (b.putPatterns p index vs).pattern q i =
      if q = p ∧ index ≤ i then (vs[i - index]?).getD (b.pattern q i) else b.pattern q i := by
  induction vs generalizing b index with
  | nil => exact ⟨fun _ => rfl, fun _ => rfl, fun q i hi => by simp [Bank.putPatterns]⟩
  | cons v rest ih =>
    rw [List.length_cons] at hin
    obtain ⟨hentry, hvalid, hpattern⟩ := ih (Bank.wf_setPattern hb p index (by omega) v) (index + 1) (by omega)
    refine ⟨hentry, hvalid, fun q i hi => ?_⟩
    change ((b.setPattern p index v).putPatterns p (index + 1) rest).pattern q i = _
    rw [hpattern q i hi, Bank.pattern_setPattern hb p q index i (by omega) hi]
    by_cases hp : q = p
    · subst hp
      rcases Nat.lt_trichotomy i index with hlt | rfl | hgt
      · rw [if_neg (by omega), if_neg (by omega), if_neg (by omega)]
      · rw [if_neg (by omega), if_pos ⟨rfl, rfl⟩, if_pos ⟨rfl, Nat.le_refl _⟩, Nat.sub_self, List.getElem?_cons_zero,
          Option.getD_some]
      · rw [if_pos ⟨rfl, by omega⟩, if_neg (by omega), if_pos ⟨rfl, by omega⟩,
          show i - index = i - (index + 1) + 1 by omega, List.getElem?_cons_succ]
    · rw [if_neg fun h => hp h.1, if_neg fun h => hp h.1, if_neg fun h => hp h.1]

theorem patternsOf_flatMap_byteDigits (vs : List Pattern) : patternsOf (vs.flatMap byteDigits) = vs := by
  induction vs with
  | nil => rfl
  | cons v rest ih =>
    rw [List.flatMap_cons]
    change byteOf (highDigit v) (lowDigit v) :: patternsOf (rest.flatMap byteDigits) = _
    rw [byteOf_digits, ih]

theorem parse_loadPatterns {own : Addr} {page ih il : Digit} {patterns : List Pattern} (hpage : page.toNat ≤ 7)
    (h1 : 1 ≤ patterns.length) (h5 : patterns.length ≤ 5) (hin : indexOf ih il + patterns.length ≤ 32) :
    parseCommand own 0x3#4 ([page, ih, il, BitVec.ofNat 4 patterns.length] ++ patterns.flatMap byteDigits) =
      .command (.loadPatterns (pageOf page) (indexOf ih il) patterns) := by
  have hcount : (BitVec.ofNat 4 patterns.length).toNat = patterns.length := by
    rw [BitVec.toNat_ofNat]
    omega
  have hzero : BitVec.ofNat 4 patterns.length ≠ 0#4 := fun h0 => by
    rw [h0] at hcount
    simp at hcount
    omega
  have hfive : ¬5#4 < BitVec.ofNat 4 patterns.length := by
    rw [digit_lt_iff, hcount]
    exact Nat.not_lt.mpr h5
  have hpage' : ¬7#4 < page := by
    rw [digit_lt_iff]
    exact Nat.not_lt.mpr hpage
  change (if (BitVec.ofNat 4 patterns.length = 0#4 || 5#4 < BitVec.ofNat 4 patterns.length : Bool) = true then Parsed.invalid
    else if (patterns.flatMap byteDigits).length ≠ 2 * (BitVec.ofNat 4 patterns.length).toNat then Parsed.length
    else Parsed.unless _ _) = _
  rw [if_neg (by simp [hzero, hfive]), if_neg (by rw [hcount, flatMap_byteDigits_length]; simp)]
  change Parsed.unless _ (.loadPatterns (pageOf page) (indexOf ih il) (patternsOf (patterns.flatMap byteDigits))) = _
  rw [patternsOf_flatMap_byteDigits]
  refine unless_of_false ?_ _
  rw [hcount]
  simp only [hpage', decide_false, Bool.false_or, Bool.or_eq_false_iff, decide_eq_false_iff_not, Nat.not_lt]
  exact ⟨by omega, hin⟩

/-- Settles O29: the patterns of one page and its flag. -/
theorem loadPatternsWritesOnePage : Obligations.LoadPatternsWritesOnePage := by
  intro s q page ih il patterns index h hcanonical hpage hindex h1 h5 hin
  have hwf := stagingBank_wf hcanonical
  have hpageOf (p : Fin 8) : p = pageOf page ↔ p.val = page.toNat := by
    rw [Fin.ext_iff, pageOf]
    dsimp only
    rw [Nat.mod_eq_of_lt (by omega)]
  have hindexOf : indexOf ih il = index := hindex.symm
  obtain ⟨hentry, hvalid, hpattern⟩ := putPatterns_spec hwf (pageOf page) index patterns hin
  have hstaging : (s.map.loadPatterns (pageOf page) index patterns).stagingBank =
      (s.map.stagingBank.putPatterns (pageOf page) index patterns).setValid (pageOf page) := by
    rw [MapStore.loadPatterns, MapStore.stagingBank_setStaging]
  refine ⟨s.map.loadPatterns (pageOf page) index patterns, ?_, by simp [MapStore.loadPatterns], by simp [MapStore.loadPatterns],
    by simp [MapStore.loadPatterns], fun a => ?_, fun p => ?_, fun p i hi => ?_⟩
  · rw [← State.heard_map s q.port, ← hindexOf]
    refine exec_answered (c := .loadPatterns q page ih il (BitVec.ofNat 4 patterns.length) patterns) h rfl (by simp; omega)
      (parse_loadPatterns hpage h1 h5 (by rw [hindexOf]; exact hin)) rfl (commit_of_manages h)
  · rw [hstaging, Bank.entry_setValid, hentry]
  · rw [hstaging, Bank.isValid_setValid, hvalid, decide_eq_decide.mpr (hpageOf p)]
  · rw [hstaging, Bank.pattern_setValid, hpattern p i hi, if_congr (and_congr_left' (hpageOf p)) rfl rfl]

end Sys2Proof.Proofs

/-! ## Management commands: one line, and commands that are wrong (R133, R138 to R144) -/

namespace Sys2Proof.Proofs

open Sys2Proof Sys2Proof.Machine

/-! ### SET LINE (R133, R151) -/

theorem parse_setLine {own : Addr} {l : Fin 12} {mode edge hold : Digit} {lm : LineMode} {le : Edge} (hhold : hold ≠ 0#4)
    (hmode : mode = 0#4 ∧ lm = .disabled ∨ mode = 1#4 ∧ lm = .input ∨ mode = 2#4 ∧ lm = .catching ∨ mode = 3#4 ∧ lm = .output)
    (hedge : edge = 0#4 ∧ le = .falling ∨ edge = 1#4 ∧ le = .rising ∨ edge = 2#4 ∧ le = .both) :
    parseCommand own 0xB#4 [BitVec.ofNat 4 l.val, mode, edge, hold] = .command (.setLine l lm le hold) := by
  have hline : (BitVec.ofNat 4 l.val).toNat = l.val := by
    rw [BitVec.toNat_ofNat]
    omega
  have hmode' : ¬3#4 < mode ∧ lineModeOf mode = lm := by
    rcases hmode with ⟨rfl, rfl⟩ | ⟨rfl, rfl⟩ | ⟨rfl, rfl⟩ | ⟨rfl, rfl⟩ <;> decide
  have hedge' : ¬2#4 < edge ∧ edgeOf edge = le := by
    rcases hedge with ⟨rfl, rfl⟩ | ⟨rfl, rfl⟩ | ⟨rfl, rfl⟩ <;> decide
  have hline' : ¬0xB#4 < BitVec.ofNat 4 l.val := by
    rw [digit_lt_iff, hline]
    have := l.isLt
    simp only [BitVec.reduceToNat]
    omega
  have hl : (⟨(BitVec.ofNat 4 l.val).toNat % 12, by omega⟩ : Fin 12) = l := 
    Fin.ext (by change (BitVec.ofNat 4 l.val).toNat % 12 = l.val; rw [hline]; exact Nat.mod_eq_of_lt l.isLt)
  change Parsed.unless _ (.setLine ⟨(BitVec.ofNat 4 l.val).toNat % 12, _⟩ (lineModeOf mode) (edgeOf edge) hold) = _
  rw [hl, hmode'.2, hedge'.2]
  exact unless_of_false (by simp only [hline', hmode'.1, hedge'.1, hhold, decide_false, Bool.or_self]) _

/-- Settles O36: the table of R133 under the law that catch states fit modes. -/
theorem setLineSetsOneLine : Obligations.SetLineSetsOneLine := by
  intro s q l mode edge hold lm le h hhold hmode hedge hlaw
  refine ⟨s.line.configure l lm le hold, ?_, rfl, fun k hk => ?_, fun k hk => ?_,
    ((s.line.catchOf (pinLine l)).onSetLine (s.line.lines[l]).mode lm (s.line.lines[l]).retire).1, ?_, ?_⟩
  · rw [← State.heard_line s q.port]
    exact exec_answered (c := .setLine q (BitVec.ofNat 4 l.val) mode edge hold) h rfl (by simp) (parse_setLine hhold hmode hedge) rfl
      (commit_of_manages h)
  · rw [lines_configure, if_neg hk]
  · rw [catchOf_configure, if_neg hk]
  · rw [lines_configure, if_pos rfl]
  · obtain ⟨hretired, hcatching, hother⟩ := hlaw.1 l
    rw [catchOf_configure, if_pos rfl]
    have hretire (hstate : (s.line.catchOf (pinLine l)).state ≠ .reporting) : (s.line.lines[l]).retire = false := by
      by_contra hset
      exact hstate (hretired (by simpa using hset))
    unfold Catch.onSetLine
    cases hstate : (s.line.catchOf (pinLine l)).state with
    | none | armed | caught =>
      dsimp only
      rw [hretire (by rw [hstate]; simp)]
      by_cases hlm : lm = .catching
      · rw [if_pos hlm, if_pos hlm]
        exact ⟨rfl, rfl⟩
      · rw [if_neg hlm, if_neg hlm]
        exact ⟨rfl, rfl⟩
    | reporting =>
      dsimp only
      by_cases hset : (s.line.lines[l]).retire = false ∧ lm ≠ .catching
      · have hwas : (s.line.lines[l]).mode = .catching := by
          by_contra hne
          rcases hother hne with hnone | hretire
          · rw [hstate] at hnone
            cases hnone
          · rw [hset.1] at hretire
            cases hretire
        rw [if_pos hset, if_pos]
        swap
        · simp only [Bool.and_eq_true, decide_eq_true_eq]
          exact ⟨⟨hset.1, hwas⟩, hset.2⟩
        refine ⟨rfl, ?_⟩
        rw [← hstate]
      · rw [if_neg hset, if_neg]
        · exact ⟨rfl, rfl⟩
        · simp only [Bool.and_eq_true, decide_eq_true_eq]
          exact fun hc => hset ⟨hc.1.1, hc.2⟩

/-! ### Lengths and ranges (R142, R143) -/

theorem unless_of_true {bad : Bool} (h : bad = true) (c : Command) : Parsed.unless bad c = .invalid := by
  rw [h]
  rfl

/-- The digits of a list of known length. -/
theorem eq_getD_of_length {args : List Digit} {n : Nat} (h : args.length = n) :
    args = (List.range n).map fun i => args.getD i 0#4 := by
  refine List.ext_getElem (by simp [h]) fun i hi hi' => ?_
  simp [List.getElem?_eq_getElem hi]

theorem digit_eq_iff (a b : Digit) : a = b ↔ a.toNat = b.toNat := BitVec.toNat_inj.symm

/-- The sixteen digits. -/
theorem digit_cases (c : Digit) : c = 0#4 ∨ c = 1#4 ∨ c = 2#4 ∨ c = 3#4 ∨ c = 4#4 ∨ c = 5#4 ∨ c = 6#4 ∨ c = 7#4 ∨ c = 8#4 ∨ c = 9#4 ∨
    c = 10#4 ∨ c = 11#4 ∨ c = 12#4 ∨ c = 13#4 ∨ c = 14#4 ∨ c = 15#4 := by
  revert c; decide

/-- R142: LOAD PATTERNS of the wrong length. -/
theorem parseLoadPatterns_length {args : List Digit} (h : wrongLength 3#4 args) : parseLoadPatterns args = .length := by
  have hlength : args.length < 4 ∨ (1 ≤ (args.getD 3 0#4).toNat ∧ (args.getD 3 0#4).toNat ≤ 5 ∧
      args.length ≠ 4 + 2 * (args.getD 3 0#4).toNat) := h
  unfold parseLoadPatterns
  split
  next page ih il k ds =>
    obtain hshort | ⟨hlow, hhigh, hne⟩ := hlength
    · simp at hshort
      omega
    · simp only [List.getD_cons_succ, List.getD_cons_zero, List.length_cons] at hlow hhigh hne
      have hcount : (decide (k = 0#4) || decide (5#4 < k)) = false := by
        simp only [digit_eq_iff, digit_lt_iff, BitVec.reduceToNat, Bool.or_eq_false_iff, decide_eq_false_iff_not]
        omega
      rw [hcount, if_neg Bool.false_ne_true, if_pos (by omega)]
  next => rfl

/-- R142: a command of the wrong length. -/
theorem parseCommand_of_wrongLength {own : Addr} {code : Digit} {args : List Digit} (h : wrongLength code args) :
    parseCommand own code args = .length := by
  rcases digit_cases code with rfl | rfl | rfl | rfl | rfl | rfl | rfl | rfl | rfl | rfl | rfl | rfl | rfl | rfl | rfl | rfl
  case inr.inr.inr.inl => exact parseLoadPatterns_length h
  all_goals
    have hlength : args.length + 1 ≠ _ := h
    simp only [commandLength, BitVec.reduceToNat, List.getD_cons_succ, List.getD_cons_zero] at hlength
    simp only [parseCommand, BitVec.reduceToNat, parseReset, parseLoadEntry, parseLoadBlock, parseBare, parseReadEntry, parseReadPatterns,
      parseReadCounters, parseClear, parseSetLine, parseSetReporting, parseSetSpur, parseSetOptions, parseSetManager]
    split <;> simp_all

/-- R143: LOAD PATTERNS with an argument out of range. -/
theorem parseLoadPatterns_invalid {own : Addr} {args : List Digit} (hlength : ¬wrongLength 3#4 args) (h : outOfRange own 3#4 args) :
    parseLoadPatterns args = .invalid := by
  change ¬(args.length < 4 ∨ (1 ≤ (args.getD 3 0#4).toNat ∧ (args.getD 3 0#4).toNat ≤ 5 ∧
    args.length ≠ 4 + 2 * (args.getD 3 0#4).toNat)) at hlength
  unfold parseLoadPatterns
  split
  next page ih il k ds =>
    simp only [outOfRange, BitVec.reduceToNat, List.getD_cons_succ, List.getD_cons_zero, List.length_cons] at h hlength
    split
    next => rfl
    next hcount =>
      simp only [digit_eq_iff, digit_lt_iff, BitVec.reduceToNat, Bool.or_eq_true, decide_eq_true_eq] at hcount
      rw [if_neg (by omega)]
      refine unless_of_true ?_ _
      simp only [Bool.or_eq_true, decide_eq_true_eq]
      simp only [digit_lt_iff, BitVec.reduceToNat, indexOf]
      omega
  next hshort =>
    match args, hlength with
    | page :: ih :: il :: k :: ds, _ => exact absurd rfl (hshort page ih il k ds)
    | [], hlength | [_], hlength | [_, _], hlength | [_, _, _], hlength => simp at hlength

/-- R143: a command of its length with an argument out of its range. -/
theorem parseCommand_of_outOfRange {own : Addr} {code : Digit} {args : List Digit} (hlength : ¬wrongLength code args)
    (h : outOfRange own code args) : parseCommand own code args = .invalid := by
  rcases digit_cases code with rfl | rfl | rfl | rfl | rfl | rfl | rfl | rfl | rfl | rfl | rfl | rfl | rfl | rfl | rfl | rfl
  case inr.inr.inr.inl => exact parseLoadPatterns_invalid hlength h
  case inr.inr.inr.inr.inl | inr.inr.inr.inr.inr.inl | inr.inr.inr.inr.inr.inr.inr.inr.inl => exact h.elim
  all_goals
    have hargs : args = _ := eq_getD_of_length (Nat.succ.inj (not_not.mp hlength))
    simp only [List.range_succ, List.range_zero, List.nil_append, List.cons_append, List.map_cons, List.map_nil] at hargs
    rw [hargs]
    refine unless_of_true ?_ _
    simp only [outOfRange, BitVec.reduceToNat] at h
    simpa [digit_eq_iff, digit_lt_iff, badRow_eq_true_iff, badEntry, indexOf, or_assoc, Config.broadcast] using h

/-! ### A MGMT frame of any command (R138, R142 to R144) -/

/-- R138: the row of a MGMT frame for the part is its arrival. -/
theorem exec_mgmtFrame {s : State} (h : s.Quiet) (q : Requester) (code : Digit) (args : List Digit) :
    exec (mgmtFrame s q code args) s = .next (s.manageFrom q code args) :=
  exec_takeFrame_of_quiet h q.port .ended _

/-- R138: the row of a MGMT frame whose examination leaves no commit pending. -/
theorem exec_mgmtFrame_of_delivers {s t : State} {q : Requester} (h : s.Delivers q) {code : Digit} {args : List Digit}
    (hp : args.length ≤ 14)
    (ht : (s.heard q.port).manage { kind := 0x8#4, dst := s.adr, src := q.src, seq := q.seq, payload := code :: args } = t)
    (hcommit : t.mgmt.commit = none) : exec (mgmtFrame s q code args) s = .next t := by
  rw [exec_mgmtFrame h.1, State.manageFrom_of_delivers h code args hp]
  dsimp only
  rw [ht, hcommit]
  simp

/-- Settles O42: the two answers to a command that is wrong. -/
theorem wrongCommandsAreAnsweredAndChangeNothing : Obligations.WrongCommandsAreAnsweredAndChangeNothing := by
  intro s q code args h hp
  have hanswer (parsed : Parsed) (status : Digit) (hparse : parseCommand s.adr code args = parsed)
      (hstatus : parsed = .length ∧ status = 2#4 ∨ parsed = .invalid ∧ status = 1#4) :
      exec (mgmtFrame s q code args) s = .next ((s.heard q.port).answered q.src q.seq code status []) := by
    refine exec_mgmtFrame_of_delivers h.1 hp ?_ (by rw [State.answered_commit, commit_of_manages h])
    rw [State.manage_of_manages h, hparse]
    rcases hstatus with ⟨rfl, rfl⟩ | ⟨rfl, rfl⟩ <;> exact State.answerWith_eq _ _ _ _
  exact ⟨fun hwrong => hanswer _ _ (parseCommand_of_wrongLength hwrong) (.inl ⟨rfl, rfl⟩),
    fun hlength hrange => hanswer _ _ (parseCommand_of_outOfRange hlength hrange) (.inr ⟨rfl, rfl⟩)⟩

/-! ### Steps 1 to 3 of R138 -/

theorem manage_of_busy {s : State} (h : s.mgmt.reply ≠ .free) (f : Frame) :
    s.manage f = (s.count .mgmtDropped).latch .mgmtOverrun := by
  unfold State.manage
  rw [if_pos h]

/-- R140: a frame that repeats the recorded source and sequence digit. -/
theorem manage_of_replay {s : State} {f : Frame} {r : LastCommand} (hfree : s.mgmt.reply = .free) (hlast : s.mgmt.last = some r)
    (hsrc : r.src = f.src) (hseq : r.seq = f.seq) : s.manage f = s.replied f.src f.seq r.payload := by
  have hreplays : s.mgmt.replays f = some r.payload := by simp [Management.replays, hlast, hsrc, hseq]
  unfold State.manage
  rw [if_neg (by simp [hfree]), hreplays]
  exact State.reply_eq s f r.payload

/-- R141: a frame whose source is no manager. -/
theorem manage_of_stranger {s : State} {f : Frame} (hfree : s.mgmt.reply = .free)
    (hlast : ∀ r, s.mgmt.last = some r → ¬(r.src = f.src ∧ r.seq = f.seq)) (haccepts : s.mgmt.accepts f.src = false) :
    s.manage f = s.replied f.src f.seq [f.command, 3#4] := by
  have hreplays : s.mgmt.replays f = none := by
    unfold Management.replays
    split
    next r hr => rw [if_neg (by simpa using hlast r hr)]
    next => rfl
  unfold State.manage
  rw [if_neg (by simp [hfree]), hreplays]
  simp only [haccepts, Bool.not_false, if_true]
  exact State.reply_eq s f _

/-- R23, R24: an own MGMT frame, taken while the slot is in use, is dropped. -/
theorem take_mgmt_of_busy {s : State} {q : Requester} (hsettled : Settled s q.port) (howned : s.Owned q) (hbusy : s.mgmt.reply ≠ .free)
    {code : Digit} {args : List Digit} (hp : args.length ≤ 14) :
    (s.arrived q.port .reset).take q.port .ended (Frame.mk 0x8#4 s.adr q.src q.seq (code :: args)).digits =
      ((s.heard q.port).count .mgmtDropped).latch .mgmtOverrun := by
  obtain ⟨haddressed, hforeign⟩ := howned
  have hsrc : s.own ≠ some q.src := fun h => hforeign ((own_eq_some_iff s q.src).mp h).2.symm
  rw [take_intact hsettled (by simpa using Nat.succ_le_succ hp), if_neg hsrc, if_pos ((own_eq_some_iff s s.adr).mpr ⟨haddressed, rfl⟩)]
  exact manage_of_busy (by rwa [State.heard_mgmt]) _

/-- A whole frame at a spur receiver between frames is noted and taken. -/
theorem arrive_spur {s : State} {e : Ending} {ds : List Digit} (hrx : s.spurRx.state ≠ .assemble) (hears : s.spur.state ≠ .disabled) :
    s.arrive .spur e ds = (s.arrived .spur (afterEnding e)).take .spur e ds := by
  rw [State.arrive, if_neg fun hd => hears ((deaf_iff s .spur).mp hd).2, startArrives_of_between (p := .spur) hrx]
  rfl

/-- R9, R39: a completion at the upstream receiver is the taking, after which a pending swap is due. -/
theorem complete_upstream (s : State) (e : Ending) (ds : List Digit) (r : Receiver) :
    s.complete .upstream e ds r =
      if ((completedAt s .upstream r).take .upstream e ds).mgmt.commit.isSome then
        ((completedAt s .upstream r).take .upstream e ds).addDue .swap
      else (completedAt s .upstream r).take .upstream e ds := rfl

/-- Settles O41: the first three steps of R138, and the frames of a part whose commit is pending. -/
theorem droppedReplayedAndDeniedCommands : Obligations.DroppedReplayedAndDeniedCommands := by
  refine ⟨fun s q code args h hp => ?_, fun s q code args hquiet howned hp hreserved hpending => ?_⟩
  · have hcommit : (s.heard q.port).mgmt.commit = none := by rw [State.heard_mgmt, h.2.1.2.1]
    refine ⟨fun hbusy => ⟨_, exec_mgmtFrame_of_delivers h hp (manage_of_busy (by rwa [State.heard_mgmt]) _) ?_, reported_count_latch _ _ _⟩,
      fun r hfree hlast hsrc hseq => ?_, fun hfree hlast hmanaged h0 h1 => ?_⟩
    · rw [(works_latch (d := .nothing) _ _).sameStates.commit, count_commit, hcommit]
    · exact exec_mgmtFrame_of_delivers h hp (manage_of_replay (by rwa [State.heard_mgmt]) (by rwa [State.heard_mgmt]) hsrc hseq)
        (by rw [State.replied_commit, hcommit])
    · refine exec_mgmtFrame_of_delivers h hp (manage_of_stranger (by rwa [State.heard_mgmt]) (by rwa [State.heard_mgmt]) ?_)
        (by rw [State.replied_commit, hcommit])
      rw [State.heard_mgmt, Management.accepts]
      simp only [Bool.or_eq_false_iff, Bool.and_eq_false_iff, Option.isNone_eq_false_iff, Option.isSome_iff_ne_none, decide_eq_false_iff_not]
      exact ⟨⟨hmanaged, h0⟩, h1⟩
  · have hbusy : s.mgmt.reply ≠ .free := by rw [hreserved]; nofun
    refine ⟨fun hport hrx hclosed => ?_, fun hlive hrx => ?_⟩
    · obtain ⟨port, src, seq⟩ := q
      obtain rfl : port = .spur := hport
      refine ⟨_, exec_mgmtFrame hquiet _ _ _, ?_⟩
      rw [State.manageFrom, State.arriveOwn, arrive_spur hrx (by rw [hclosed]; nofun), show afterEnding .ended = .reset from rfl,
        take_mgmt_of_busy (q := ⟨.spur, src, seq⟩) hclosed howned hbusy hp]
      exact reported_count_latch _ _ _
    · have htake := take_mgmt_of_busy (code := code) (q := ⟨.upstream, q.src, q.seq⟩) hlive howned hbusy hp
      refine ⟨((s.heard .upstream).count .mgmtDropped).latch .mgmtOverrun, ?_, reported_count_latch _ _ _⟩
      rw [exec_receiveUnit_of_quiet hquiet, receive_assembling (p := .upstream) nofun hrx, show classOf unitEnd = .stop from rfl,
        report_of_not_idle s .upstream (by simp), (assembleUnit_other (by rw [rx_noted]; exact hrx)).1, complete_upstream, completedAt_noted, htake,
        if_pos (by rw [(works_latch (d := .nothing) _ _).sameStates.commit, count_commit, State.heard_mgmt, hpending])]
      have hdue : (((s.heard .upstream).count .mgmtDropped).latch .mgmtOverrun).due = [] := by
        obtain ⟨-, -, -, -, -, -, -, -, -, -, hdue, -⟩ := (eventEffect_latch ((s.heard .upstream).count .mgmtDropped) .mgmtOverrun).frame
        exact hdue.trans hquiet.2
      simp only [State.addDue, State.setDue, hdue, List.nil_append]

end Sys2Proof.Proofs

/-! ## What the taking of a frame leaves at the receivers (R9, R39) -/

namespace Sys2Proof.Proofs

open Sys2Proof Sys2Proof.Machine

/-- The parts of the state that receiving a unit sets before a frame is taken: what is due, the receivers and the gap count. -/
def intakeView (s : State) : List Due × Receiver × Receiver × Nat := (s.due, s.upRx, s.spurRx, s.gapCount)

theorem intakeView_of_eventEffect {s t : State} (h : EventEffect s t) : intakeView t = intakeView s := by
  obtain ⟨-, -, -, hup, hspur, hgap, -, -, -, -, hdue, -⟩ := h.frame
  simp only [intakeView, hup, hspur, hgap, hdue]

theorem intakeView_latch (s : State) (l : Latch) : intakeView (s.latch l) = intakeView s :=
  (intakeView_of_eventEffect (eventEffect_latch s l)).trans rfl

theorem intakeView_count_latch (s : State) (c : Counter) (l : Latch) : intakeView ((s.count c).latch l) = intakeView s :=
  intakeView_latch (s.count c) l

theorem intakeView_malformedEvent (s : State) : intakeView s.malformedEvent = intakeView s := intakeView_count_latch _ _ _

theorem intakeView_overrun (s : State) (q : Target) : intakeView (s.overrun q) = intakeView s := by
  cases q <;> exact intakeView_count_latch _ _ _

theorem intakeView_insert (s : State) (h : Held) : intakeView (s.insert h) = intakeView s := by
  simp only [intakeView, State.insert_due, State.insert_upRx, State.insert_spurRx, State.insert_gapCount]

theorem intakeView_enter (s : State) (q : Target) (hs : List Held) : intakeView (s.enter q hs) = intakeView s := by
  simp only [intakeView, State.enter_due, State.enter_upRx, State.enter_spurRx, State.enter_gapCount]

theorem intakeView_examineBreak (s : State) : intakeView s.examineBreak = intakeView s := by
  unfold State.examineBreak
  split
  · exact intakeView_insert _ _
  · rfl

theorem intakeView_restoreByFrame (s : State) (p : Port) : intakeView (s.restoreByFrame p) = intakeView s := by
  cases p with
  | upstream =>
    change intakeView s.becomeLive = _
    unfold State.becomeLive
    split
    · exact intakeView_examineBreak _
    · rfl
  | spur =>
    change intakeView s.spurCloses = _
    unfold State.spurCloses
    split
    · exact intakeView_examineBreak _
    · rfl

theorem intakeView_noRun (s : State) (p : Port) : intakeView (s.noRun p) = intakeView s := by cases p <;> rfl

/-! ### Placement -/

theorem intakeView_placeAsIs (s : State) (q : Target) (ds : List Digit) : intakeView (s.placeAsIs q ds) = intakeView s := by
  unfold State.placeAsIs
  split
  · exact intakeView_enter _ _ _
  · exact intakeView_overrun _ _

theorem intakeView_enterCopy (s : State) (hop : List Digit) (alone : Bool) (f : Frame) (c : Copy) :
    intakeView (s.enterCopy hop alone f c) = intakeView s := by
  unfold State.enterCopy
  dsimp only
  split
  · exact intakeView_enter _ _ _
  · split <;> exact intakeView_enter _ _ _

theorem intakeView_placeCopy (s : State) (e : Entry) (hop : List Digit) (alone : Bool) (f : Frame) (c : Copy) :
    intakeView (s.placeCopy e hop alone f c).2 = intakeView s := by
  unfold State.placeCopy
  split
  · rfl
  · split
    · dsimp only
      split
      · exact intakeView_enter _ _ _
      · exact intakeView_overrun _ _
    · split
      · exact intakeView_enterCopy _ _ _ _ _
      · exact intakeView_overrun _ _

theorem intakeView_placeCopies (s : State) (e : Entry) (hop : List Digit) (alone : Bool) (f : Frame) (cs : List Copy) :
    intakeView (s.placeCopies e hop alone f cs).2 = intakeView s := by
  induction cs generalizing s with
  | nil => rfl
  | cons c rest ih => exact (ih _).trans (intakeView_placeCopy s e hop alone f c)

theorem intakeView_lookupAndPlace (s : State) (f : Frame) : intakeView (s.lookupAndPlace f).2 = intakeView s := by
  unfold State.lookupAndPlace
  dsimp only
  split
  · rfl
  · refine (intakeView_placeCopies _ _ _ _ _ _).trans ?_
    unfold State.beforeClaims
    split
    · split
      · exact intakeView_malformedEvent _
      · rfl
    · rfl

theorem intakeView_afterPlacement (s : State) (e : Entry) (f : Frame) (adjust placed : Bool) :
    intakeView (s.afterPlacement e f adjust placed) = intakeView s := by
  have hrun (dest : Addr) (cell : Digit) : intakeView (s.openRun e dest cell) = intakeView s := by
    unfold State.openRun
    split <;> rfl
  have heffect (t : State) : intakeView (t.broadcastEffect f adjust) = intakeView t := by
    unfold State.broadcastEffect
    (repeat' split) <;> rfl
  unfold State.afterPlacement
  split
  · refine (heffect _).trans ?_
    split
    · rfl
    · split
      · rfl
      · exact hrun _ _
  · rfl

theorem intakeView_candidate (s : State) (f : Frame) (adjust : Bool) : intakeView (s.candidate f adjust) = intakeView s := by
  have hgo (u : State) : intakeView ((u.lookupAndPlace f).2.afterPlacement (u.map.activeBank.entry f.dst) f adjust
      (u.lookupAndPlace f).1) = intakeView u := (intakeView_afterPlacement _ _ _ _ _).trans (intakeView_lookupAndPlace u f)
  unfold State.candidate
  dsimp only
  split
  · exact hgo _
  · split
    · rfl
    · exact hgo _

theorem intakeView_mainPath (s : State) (f : Frame) : intakeView (s.mainPath f) = intakeView s := by
  have hplace : intakeView (s.closeRun.lookupAndPlace f).2 = intakeView s := intakeView_lookupAndPlace _ _
  unfold State.mainPath
  cases kindOf f.kind with
  | write | adjust => exact intakeView_candidate _ _ _
  | unassigned => exact intakeView_placeAsIs _ _ _
  | _ => exact hplace

/-! ### Own frames, and the taking -/

theorem intakeView_ownCells (s : State) (adjust : Bool) (cell : Digit) (vs : List Digit) :
    intakeView (s.ownCells adjust cell vs) = intakeView s := by
  unfold State.ownCells
  dsimp only
  split
  · exact intakeView_latch _ _
  · rfl

theorem intakeView_ownRead (s : State) (f : Frame) (cell : Digit) (k : Nat) (masks : List Digit) :
    intakeView (s.ownRead f cell k masks) = intakeView s := by
  unfold State.ownRead
  split
  · dsimp only
    split
    · exact (intakeView_latch _ _).trans (intakeView_insert _ _)
    · exact intakeView_insert _ _
  · exact intakeView_count_latch _ _ _

/-- What the taking of a frame keeps while a COMMIT is pending and its slot RESERVED: the map store, the COMMIT and the slot. -/
structure KeepsWait (s t : State) : Prop where
  map : t.map = s.map
  commit : t.mgmt.commit = s.mgmt.commit
  reserved : s.mgmt.reply = .reserved → t.mgmt.reply = .reserved
  intake : intakeView t = intakeView s

theorem KeepsWait.trans {s t u : State} (h : KeepsWait s t) (k : KeepsWait t u) : KeepsWait s u :=
  ⟨k.map.trans h.map, k.commit.trans h.commit, fun hr => k.reserved (h.reserved hr), k.intake.trans h.intake⟩

theorem KeepsWait.of_keepsMap {s t : State} (h : KeepsMap s t) (hintake : intakeView t = intakeView s) : KeepsWait s t := by
  refine ⟨h.map, h.commit, fun hreserved => ?_, hintake⟩
  rcases h.slot with ⟨hreply, -⟩ | ⟨ds, hfull, -⟩
  · exact hreply.trans hreserved
  · exact absurd (hreserved.symm.trans hfull) (by simp)

theorem keepsWait_malformedEvent (s : State) : KeepsWait s s.malformedEvent :=
  .of_keepsMap (keepsMap_malformedEvent s) (intakeView_malformedEvent s)

theorem keepsWait_restoreByFrame (s : State) (p : Port) : KeepsWait s (s.restoreByFrame p) := by
  cases p with
  | upstream => exact .of_keepsMap (keepsMap_becomeLive s) (intakeView_restoreByFrame s .upstream)
  | spur =>
    change KeepsWait s s.spurCloses
    unfold State.spurCloses
    split
    · have hclosed : KeepsWait s ((s.setSpur { s.spur with state := .closed, watchCount := 0, restoreCount := 0 }).count .changes) :=
        ⟨rfl, rfl, id, rfl⟩
      exact hclosed.trans (.of_keepsMap (keepsMap_examineBreak _) (intakeView_examineBreak _))
    · exact ⟨rfl, rfl, id, rfl⟩

/-- R157: while a slot is RESERVED an own frame keeps the COMMIT waiting. -/
theorem keepsWait_ownFrame {s : State} (h : s.mgmt.reply = .reserved) (f : Frame) : KeepsWait s (s.ownFrame f) := by
  have hcells (adjust : Bool) (cell : Digit) (vs : List Digit) : KeepsWait s (s.ownCells adjust cell vs) :=
    .of_keepsMap (keepsMap_ownCells s adjust cell vs) (intakeView_ownCells s adjust cell vs)
  have hmanage : KeepsWait s (s.manage f) := by
    rw [manage_of_busy (by rw [h]; nofun)]
    exact .of_keepsMap (keepsMap_count_latch _ _ _) (intakeView_count_latch _ _ _)
  have hcount : KeepsWait s (s.count .misdirected) := .of_keepsMap (keepsMap_count _ _) rfl
  unfold State.ownFrame
  cases kindOf f.kind with
  | write | adjust =>
    dsimp only
    split
    · exact keepsWait_malformedEvent s
    · exact hcells _ _ _
  | mgmt =>
    dsimp only
    split
    · exact keepsWait_malformedEvent s
    · exact hmanage
  | read =>
    dsimp only
    split
    · split
      · exact keepsWait_malformedEvent s
      · exact .of_keepsMap (keepsMap_ownRead _ _ _ _ _) (intakeView_ownRead _ _ _ _ _)
    · exact keepsWait_malformedEvent s
  | _ => exact hcount

theorem keepsWait_noRun (s : State) (p : Port) : KeepsWait s (s.noRun p) := .of_keepsMap (keepsMap_noRun s p) (intakeView_noRun s p)

theorem keepsWait_placeAsIs (s : State) (q : Target) (ds : List Digit) : KeepsWait s (s.placeAsIs q ds) :=
  .of_keepsMap (keepsMap_placeAsIs s q ds) (intakeView_placeAsIs s q ds)

theorem keepsWait_count (s : State) (c : Counter) : KeepsWait s (s.count c) := .of_keepsMap (keepsMap_count s c) rfl

/-- R39, R157: while a slot is RESERVED the taking of a frame keeps the COMMIT waiting. -/
theorem keepsWait_take {s : State} (h : s.mgmt.reply = .reserved) (p : Port) (e : Ending) (ds : List Digit) : KeepsWait s (s.take p e ds) := by
  unfold State.take
  split
  next => exact (keepsWait_noRun s p).trans (keepsWait_malformedEvent _)
  next =>
    have hreported : KeepsWait s (((s.noRun p).count .damaged).latch .damageSeen) :=
      (keepsWait_noRun s p).trans (.of_keepsMap (keepsMap_count_latch _ _ _) (intakeView_count_latch _ _ _))
    unfold State.takeDamaged
    dsimp only
    split
    · exact hreported.trans (keepsWait_placeAsIs _ _ _)
    · exact hreported
  next f _ =>
    have hrestored := keepsWait_restoreByFrame s p
    have hclosed := hrestored.trans (keepsWait_noRun _ p)
    unfold State.takeIntact
    dsimp only
    split
    · exact hclosed.trans (keepsWait_count _ _)
    · split
      · exact hclosed.trans (keepsWait_ownFrame (hclosed.reserved h) f)
      · cases p with
        | upstream => exact hrestored.trans (.of_keepsMap (keepsMap_mainPath _ f) (intakeView_mainPath _ f))
        | spur => exact hrestored.trans (keepsWait_placeAsIs _ _ _)

/-- R144: an answer sets the reply slot and the last-command record, and may have the reply granted; nothing else. -/
theorem answered_frame (s : State) (src : Addr) (seq c st : Digit) (d : List Digit) :
    s.answered src seq c st d = { s with
      merge := { s.merge with tx := (s.answered src seq c st d).merge.tx }
      mgmt := { s.mgmt with
        reply := (s.answered src seq c st d).mgmt.reply
        last := some { src := src, seq := seq, command := c, payload := c :: st :: d } } } := by
  unfold State.answered State.replied
  dsimp only
  split <;> rfl

/-! ## COMMIT and its swap (R39, R40, R58, R87, R154 to R158) -/

/-- R40, R156: the swap of a pending COMMIT, and its answer. -/
theorem swap_eq_answered {s : State} {src : Addr} {seq : Digit} (h : s.mgmt.commit = some (src, seq)) :
    s.swap = State.answered { s with map := s.map.exchange, run := .closed, mgmt := { s.mgmt with commit := none } } src seq 0x5#4 0#4
      [s.map.generation + 1#4] := by
  rw [swap_of_commit h, State.fillReply_eq]
  rfl

theorem active_exchange_ne (m : MapStore) : m.exchange.active ≠ m.active := by
  cases h : m.active <;> simp [MapStore.exchange, h]

/-- R40: what a swap does to the banks and the generation. -/
theorem exchange_spec (m : MapStore) : m.exchange.activeBank = m.stagingBank ∧ m.exchange.stagingBank = m.activeBank ∧
    m.exchange.active ≠ m.active ∧ m.exchange.generation = m.generation + 1#4 :=
  ⟨MapStore.activeBank_exchange m, MapStore.stagingBank_exchange m, active_exchange_ne m, rfl⟩

/-- A managed COMMIT, its length and arguments in order. -/
theorem exec_commit {s t : State} {q : Requester} (h : s.Manages q)
    (ht : (s.heard q.port).doCommit ⟨0x8#4, s.adr, q.src, q.seq, [0x5#4]⟩ = t) (hcommit : q.port = .upstream → t.mgmt.commit = none) :
    exec (.commit q) s = .next t := by
  rw [exec_eq_takeFrame (c := .commit q) rfl, State.settled_of_quiet h.1.1]
  change Host.Outcome.next (s.manageFrom q 0x5#4 []) = _
  rw [State.manageFrom_of_delivers h.1 0x5#4 [] (by simp), State.manage_of_manages h]
  change Host.Outcome.next (if q.port = .upstream ∧ ((s.heard q.port).doCommit _).mgmt.commit.isSome = true then
    ((s.heard q.port).doCommit _).addDue .swap else (s.heard q.port).doCommit _) = _
  rw [ht, if_neg]
  rintro ⟨hport, hsome⟩
  rw [hcommit hport] at hsome
  cases hsome

/-- R154, R156: a COMMIT that has nothing to wait for swaps the banks and is answered at once. -/
theorem acceptCommit_at_once {s : State} (hcommit : s.mgmt.commit = none) (hnow : s.upRx.state ≠ .assemble ∨ s.sup.up = .silent) (f : Frame) :
    s.acceptCommit f = State.answered { s with map := s.map.exchange, run := .closed } f.src f.seq 0x5#4 0#4 [s.map.generation + 1#4] := by
  change (if (decide (s.upRx.state ≠ .assemble) || decide (s.sup.up = .silent)) = true then
    (s.setMgmt { s.mgmt with reply := .reserved, commit := some (f.src, f.seq) }).swap else _) = _
  rw [if_pos (by simpa using hnow), swap_eq_answered rfl]
  unfold State.answered State.replied
  dsimp only [State.setMgmt]
  rw [hcommit]
  rfl

/-- R39, R155: any other COMMIT waits for the upstream frame under assembly. -/
theorem acceptCommit_waits {s : State} (hrx : s.upRx.state = .assemble) (hlive : s.sup.up = .live) (f : Frame) :
    s.acceptCommit f = { s with mgmt := { s.mgmt with reply := .reserved, commit := some (f.src, f.seq) } } := by
  change (if (decide (s.upRx.state ≠ .assemble) || decide (s.sup.up = .silent)) = true then _ else
    s.setMgmt { s.mgmt with reply := .reserved, commit := some (f.src, f.seq) }) = _
  rw [if_neg (by simp [hrx, hlive])]
  rfl

/-- Settles O32: validation, and whether the COMMIT has to wait. -/
theorem commitValidatesAndSwaps : Obligations.CommitValidatesAndSwaps := by
  intro s q h
  have hfault : (s.heard q.port).map.stagingBank.firstFault (s.heard q.port).adr (s.heard q.port).spur.state =
      s.map.stagingBank.firstFault s.adr s.spur.state := by
    rw [State.heard_map, State.heard_adr, State.heard_spur_state]
  refine ⟨fun r a hbad => ?_, fun hvalid => ?_⟩
  · have hrefused : (s.heard q.port).doCommit ⟨0x8#4, s.adr, q.src, q.seq, [0x5#4]⟩ =
        (s.heard q.port).answered q.src q.seq 0x5#4 4#4 [r, rowOf a, colOf a] := by
      rw [State.doCommit, hfault, hbad]
      exact State.answerWith_eq _ _ _ _
    exact exec_commit h hrefused fun _ => by rw [State.answered_commit, commit_of_manages h]
  have haccepted : (s.heard q.port).doCommit ⟨0x8#4, s.adr, q.src, q.seq, [0x5#4]⟩ =
      (s.heard q.port).acceptCommit ⟨0x8#4, s.adr, q.src, q.seq, [0x5#4]⟩ := by
    rw [State.doCommit, hfault, hvalid]
  refine ⟨fun hfree => ⟨s.map.exchange, ?_, exchange_spec s.map⟩, fun hport hrx hlive => ?_⟩
  · have hnow : (s.heard q.port).upRx.state ≠ .assemble ∨ (s.heard q.port).sup.up = .silent := by
      cases hp : q.port with
      | upstream => exact .inl (by simp [State.heard, Receiver.reset])
      | spur => exact (hp ▸ hfree).resolve_left (by simp)
    rw [← State.heard_map s q.port]
    exact exec_commit h (haccepted.trans (acceptCommit_at_once (commit_of_manages h) hnow _)) fun _ => by
      rw [State.answered_commit]
      exact commit_of_manages h
  · have hwaits := acceptCommit_waits (s := s.heard q.port) (f := ⟨0x8#4, s.adr, q.src, q.seq, [0x5#4]⟩) (by rw [hport]; exact hrx)
      (by rw [hport]; exact hlive)
    rw [State.heard_mgmt] at hwaits
    exact exec_commit h (haccepted.trans hwaits) fun hp => absurd (hport.symm.trans hp) (by simp)

/-! ### The completion of the awaited frame -/

/-- R9: at a receiver in ASSEMBLE, a unit other than a digit that the buffer has room for completes the frame, and the buffer is empty. -/
theorem assembleUnit_completes {s : State} {p : Port} {ds : List Digit} (hrx : s.rx p = { state := .assemble, buffer := ds }) (u : UnitClass)
    (hu : ∀ d, u = .data d → 24 ≤ ds.length) :
    ∃ e r, r.buffer = [] ∧ s.assembleUnit p u = s.complete p e ds r := by
  obtain ⟨hstop, hstart, hidle, hstray⟩ := assembleUnit_other hrx
  cases u with
  | data d =>
    rw [assembleUnit_data hrx, if_neg (by have := hu d rfl; omega)]
    exact ⟨_, _, rfl, rfl⟩
  | start => exact ⟨_, _, rfl, hstart⟩
  | stop => exact ⟨_, _, rfl, hstop⟩
  | idle => exact ⟨_, _, rfl, hidle⟩
  | stray => exact ⟨_, _, rfl, hstray⟩

/-- R11: what a unit is reported for makes no swap due, and changes neither the map store, the management unit nor the receivers. -/
theorem report_keeps {s : State} (h : s.due = []) (p : Port) (u : UnitClass) :
    (s.report p u).map = s.map ∧ Due.swap ∉ (s.report p u).due ∧ (p = .upstream → s.sup.up = .live → (s.report p u).due = []) := by
  have hnoted (idle : Bool) : (s.noted p idle).map = s.map ∧ (s.noted p idle).due = [] := by cases p <;> exact ⟨rfl, h⟩
  by_cases hu : u = .idle
  · subst hu
    cases p with
    | upstream =>
      rw [report_idle_upstream, h]
      refine ⟨rfl, ?_, fun _ hlive => by simp [hlive]⟩
      dsimp only
      split <;> simp
    | spur =>
      rw [report_idle_spur, h]
      refine ⟨rfl, ?_, nofun⟩
      dsimp only
      split <;> simp
  · rw [report_of_not_idle s p hu, (hnoted false).2]
    exact ⟨(hnoted false).1, by simp, fun _ _ => rfl⟩

/-- A part that is not held in reset answers its command. -/
theorem answer_of_running {s : State} (h : s.resetLow = false) (f : State → State) : s.answer f = .next (f s) := by
  rw [State.answer, h, if_neg Bool.false_ne_true]

/-- R9, R39: the completion of the awaited frame leaves the swap due, the COMMIT and its slot as they were. -/
theorem complete_of_pending {s : State} (hdue : s.due = []) (hpending : s.mgmt.commit.isSome = true) (hreserved : s.mgmt.reply = .reserved)
    (e : Ending) (ds : List Digit) {r : Receiver} (hr : r.buffer = []) :
    (s.complete .upstream e ds r).due = [.swap] ∧ (s.complete .upstream e ds r).map = s.map ∧
      (s.complete .upstream e ds r).mgmt.commit = s.mgmt.commit ∧ (s.complete .upstream e ds r).mgmt.reply = .reserved ∧
      (s.complete .upstream e ds r).upRx.buffer = [] ∧ (s.complete .upstream e ds r).gapCount = 0 := by
  have htake := keepsWait_take (s := completedAt s .upstream r) hreserved .upstream e ds
  have hintake := htake.intake
  simp only [intakeView, Prod.mk.injEq] at hintake
  obtain ⟨htdue, htup, -, htgap⟩ := hintake
  rw [complete_upstream, if_pos (by rw [htake.commit]; exact hpending)]
  refine ⟨?_, htake.map, htake.commit, htake.reserved hreserved, ?_, htgap⟩
  · rw [State.addDue_due, htdue, show (completedAt s .upstream r).due = [] from hdue, List.nil_append]
  · change ((completedAt s .upstream r).take .upstream e ds).upRx.buffer = []
    rw [htup]
    exact hr

/-- R39: a completion at the spur receiver leaves the COMMIT waiting, and no swap due. -/
theorem complete_spur_of_pending {s : State} (hreserved : s.mgmt.reply = .reserved) (e : Ending) (ds : List Digit) (r : Receiver) :
    (s.complete .spur e ds r).due = s.due ∧ (s.complete .spur e ds r).map = s.map ∧
      (s.complete .spur e ds r).mgmt.commit = s.mgmt.commit ∧ (s.complete .spur e ds r).mgmt.reply = .reserved := by
  have htake := keepsWait_take (s := completedAt s .spur r) hreserved .spur e ds
  exact ⟨congrArg Prod.fst htake.intake, htake.map, htake.commit, htake.reserved hreserved⟩

/-- R9, R39, R157: a START cuts the awaited frame short, so that the swap has been made when the frame that it begins is completed. -/
theorem startArrives_of_pending {s : State} (hdue : s.due = []) (hrx : s.upRx.state = .assemble) {src : Addr} {seq : Digit}
    (hcommit : s.mgmt.commit = some (src, seq)) :
    (s.startArrives .upstream).due = [] ∧ (s.startArrives .upstream).mgmt.commit = none ∧
      (s.startArrives .upstream).map = s.map.exchange := by
  have hlost := keepsMap_malformedEvent ((completedAt (s.noted .upstream false) .upstream .started).withoutRun .upstream)
  have hdueLost := congrArg Prod.fst (intakeView_malformedEvent ((completedAt (s.noted .upstream false) .upstream .started).withoutRun .upstream))
  have hstart : s.startArrives .upstream =
      ((completedAt (s.noted .upstream false) .upstream .started).withoutRun .upstream).malformedEvent.swap := by
    unfold State.startArrives
    dsimp only
    rw [report_of_not_idle s .upstream (by simp), if_pos (by rw [rx_noted]; exact hrx), complete_truncated]
    dsimp only
    rw [if_pos ⟨rfl, by rw [noted_mgmt, hcommit]; rfl⟩, settle_addDue_swap (hdueLost.trans hdue)]
  rw [hstart, swap_eq_answered (hlost.commit.trans hcommit)]
  rw [answered_frame]
  exact ⟨hdueLost.trans hdue, rfl, congrArg MapStore.exchange hlost.map⟩

/-- Settles O33: the completion of the awaited frame, the two events, and events that are not due. -/
theorem swapAndRunGapExpiryTakeEffectWhenDue : Obligations.SwapAndRunGapExpiryTakeEffectWhenDue := by
  refine ⟨fun s u ds hquiet hpending hreserved => ⟨fun hlive hrx hcompletes => ⟨_, exec_receiveUnit_of_quiet hquiet _ _, ?_⟩,
      fun hrx => ⟨_, exec_receiveUnit_of_quiet hquiet _ _, ?_⟩⟩,
    fun s e ds hquiet hlive hrx hpending hbad => ⟨_, exec_takeFrame_of_quiet hquiet _ _ _, ?_⟩,
    fun s src seq hlow hdue hcommit => ⟨s.map.exchange, ?_, exchange_spec s.map⟩,
    fun s hlow hdue => ?_, fun s hlow => ⟨fun hdue => ?_, fun hdue => ?_⟩⟩
  · obtain ⟨hmap, -, hdue⟩ := report_keeps hquiet.2 .upstream (classOf u)
    obtain ⟨e, r, hr, hcompleted⟩ := assembleUnit_completes (s := s.report .upstream (classOf u)) (p := .upstream)
      (by rw [rx_report]; exact hrx) (classOf u) hcompletes
    have hpended := complete_of_pending (hdue rfl hlive) (by rw [report_mgmt, hpending]) (by rw [report_mgmt, hreserved]) e ds hr
    rw [hmap, report_mgmt] at hpended
    rw [receive_assembling (p := .upstream) nofun hrx, hcompleted]
    exact hpended
  · by_cases hdeaf : s.deaf .spur = true
    · rw [receive_of_deaf hdeaf, hquiet.2]
      exact ⟨by simp, rfl, rfl, hreserved⟩
    obtain ⟨hmap, hdue, -⟩ := report_keeps hquiet.2 .spur (classOf u)
    have hrx' : (s.report .spur (classOf u)).rx .spur = { state := .assemble, buffer := ds } := by rw [rx_report]; exact hrx
    rw [receive_assembling (p := .spur) (enabled_of_not_deaf hdeaf) hrx]
    by_cases hroom : ∃ d, classOf u = .data d ∧ ds.length < 24
    · obtain ⟨d, hu, hroom⟩ := hroom
      rw [hu] at hrx' hmap hdue ⊢
      rw [assembleUnit_data hrx', if_pos hroom]
      exact ⟨hdue, hmap, congrArg Management.commit (report_mgmt s .spur _), (congrArg Management.reply (report_mgmt s .spur _)).trans hreserved⟩
    · obtain ⟨e, r, -, hcompleted⟩ := assembleUnit_completes hrx' (classOf u) fun d hu => not_lt.mp fun hlt => hroom ⟨d, hu, hlt⟩
      have hpended := complete_spur_of_pending (s := s.report .spur (classOf u)) (by rw [report_mgmt, hreserved]) e ds r
      rw [hmap, report_mgmt] at hpended
      rw [hcompleted, hpended.1]
      exact ⟨hdue, hpended.2⟩
  · obtain ⟨⟨src, seq⟩, hcommit⟩ := Option.isSome_iff_exists.mp hpending
    obtain ⟨hdue, hnone, hmap⟩ := startArrives_of_pending hquiet.2 hrx hcommit
    have hlost := keepsMap_malformedEvent ((completedAt (s.startArrives .upstream) .upstream (afterEnding e)).withoutRun .upstream)
    have hdueLost := congrArg Prod.fst (intakeView_malformedEvent
      ((completedAt (s.startArrives .upstream) .upstream (afterEnding e)).withoutRun .upstream))
    rw [State.arrive, if_neg (by simp [deaf_iff]), complete_of_malformed hnone hbad, hlost.map]
    refine ⟨hdueLost.trans hdue, hlost.commit.trans hnone, ?_⟩
    change (s.startArrives .upstream).map.activeBank = _ ∧ (s.startArrives .upstream).map.stagingBank = _ ∧
      (s.startArrives .upstream).map.active ≠ _ ∧ (s.startArrives .upstream).map.generation = _
    rw [hmap]
    exact exchange_spec s.map
  · change s.answer (fun t => t.takeDue .swap) = _
    rw [answer_of_running hlow]
    exact congrArg Host.Outcome.next ((State.takeDue_of_due hdue).trans (swap_eq_answered (s := s.setDue (s.due.erase .swap)) hcommit))
  · change s.answer (fun t => t.takeDue .runGapExpiry) = _
    rw [answer_of_running hlow]
    exact congrArg Host.Outcome.next (State.takeDue_of_due hdue)
  · change s.answer (fun t => t.takeDue .swap) = _
    rw [answer_of_running hlow]
    exact congrArg _ (State.takeDue_of_not_due hdue)
  · change s.answer (fun t => t.takeDue .runGapExpiry) = _
    rw [answer_of_running hlow]
    exact congrArg _ (State.takeDue_of_not_due hdue)

end Sys2Proof.Proofs

/-! ## The transmitters' moves (R13, R96 to R100, R104, R124, R126, R132, R164, R165) -/

namespace Sys2Proof.Proofs

open Sys2Proof Sys2Proof.Machine

/-! ### Grants -/

theorem queueAt_of_queues {s t : State} (htransit : t.merge.transit = s.merge.transit) (hreturn : t.merge.spurReturn = s.merge.spurReturn)
    (hinsertion : t.merge.insertion = s.merge.insertion) (i : Fin 4) : queueAt t i = queueAt s i := by
  match i with
  | 0 => exact htransit
  | 1 => exact hreturn
  | 2 => exact htransit
  | 3 => exact hinsertion

theorem readyDown_of_fill {s : State} {k : Nat} (h : s.merge.tx = .fill k) :
    s.readyDown = State.grantDown { s with merge := { s.merge with tx := .ready, dout := unitIdle } } := by
  unfold State.readyDown
  rw [h]
  rfl

theorem readyDown_of_not_fill {s : State} (h : ∀ k, s.merge.tx ≠ .fill k) : s.readyDown = s := by
  unfold State.readyDown
  cases htx : s.merge.tx with
  | fill k => exact absurd htx (h k)
  | ready => rfl
  | send src k => rfl

/-- Settles O43: the check for a grant of a transmitter that has become READY. -/
theorem readyTransmitterIsGranted : Obligations.ReadyTransmitterIsGranted := by
  intro s hquiet
  have hexec : exec (.transmitterReady .downstream) s = .next s.readyDown := State.settled_of_quiet hquiet _
  refine ⟨fun k hk => ?_, fun h => by rw [hexec, readyDown_of_not_fill h]⟩
  rw [hexec, readyDown_of_fill hk]
  obtain ⟨hreply, hqueues⟩ := (grantChecked_grantDown { s with merge := { s.merge with tx := .ready, dout := unitIdle } }).2 rfl
  have hqueue (i : Fin 4) : queueAt { s with merge := { s.merge with tx := .ready, dout := unitIdle } } i = queueAt s i :=
    queueAt_of_queues rfl rfl rfl i
  simp only [hqueue] at hqueues
  refine ⟨fun ds hds => congrArg _ (hreply ds hds), fun hno => ⟨fun i hi hj => congrArg _ ((hqueues hno).1 i hi hj), fun hnone => ?_⟩⟩
  exact congrArg _ ((hqueues hno).2 hnone)

theorem readySpur_of_fill {s : State} {k : Nat} (h : s.spur.tx = .fill k) :
    s.readySpur = State.grantSpur { s with spur := { s.spur with tx := .ready, sout := unitIdle } } := by
  unfold State.readySpur
  rw [h]
  rfl

theorem readySpur_of_not_fill {s : State} (h : ∀ k, s.spur.tx ≠ .fill k) : s.readySpur = s := by
  unfold State.readySpur
  cases htx : s.spur.tx with
  | fill k => exact absurd htx (h k)
  | ready => rfl
  | send src k => rfl

/-! ### Departures -/

/-- R124, R126, R132: what the departure of a frame with a report tag does to the lines. -/
theorem recordsDeparted_notify {u : State} {h : Held} {ls : List (Fin 13)} (htag : h.tag = .report ls) (hls : ls.Nodup) :
    recordsDeparted u (u.notifyDeparture h) h ls := by
  have hnotify : u.notifyDeparture h = u.moveLines LineBlock.departure [⟨ls, decide (h.kind = .event)⟩] := by
    unfold State.notifyDeparture
    rw [htag]
  rw [hnotify]
  obtain ⟨event, hmoved, hentered, hreleased⟩ := linesMoved_departure u hls (decide (h.kind = .event))
  rw [decide_eq_true_eq] at hmoved
  refine ⟨event, hmoved, hentered, hreleased, fun hpoll => ?_⟩
  have hnone : event = [] := by
    by_contra hne
    exact absurd (hpoll.symm.trans (hmoved.2.1.mp hne).1) (by simp)
  rw [EventEntered, if_pos hnone] at hentered
  refine hentered.trans ?_
  rw [moveLines_single_choices]

theorem notifyDeparture_untagged {u : State} {h : Held} (htag : h.tag = .none) : u.notifyDeparture h = u := by
  unfold State.notifyDeparture
  rw [htag]

theorem notifyDeparture_condition {u : State} {h : Held} {c : ConditionTag} (htag : h.tag = .condition c) :
    u.notifyDeparture h = u.examineBreak := by
  unfold State.notifyDeparture
  rw [htag]

/-- R100: the departure of the frame in transmission downstream. -/
theorem departDown_of_send {s : State} {src : Source} {k : Nat} {h : Held} {rest : List Held} (htx : s.merge.tx = .send src k)
    (hframes : s.framesOf src = h :: rest) :
    s.departDown = ((s.removeHead src).setMerge { (s.removeHead src).merge with tx := .fill 0, dout := unitEnd }).notifyDeparture h := by
  unfold State.departDown
  rw [htx]
  dsimp only
  rw [hframes]
  rfl

theorem departDown_of_not_send {s : State} (h : ∀ src k, s.merge.tx ≠ .send src k) : s.departDown = s := by
  unfold State.departDown
  cases htx : s.merge.tx with
  | send src k => exact absurd htx (h src k)
  | fill k => rfl
  | ready => rfl

/-- R104: the departure of the frame in transmission on the spur. -/
theorem departSpur_of_send {s : State} {src : Source} {k : Nat} {h : Held} {rest : List Held} (htx : s.spur.tx = .send src k)
    (hqueue : s.spur.queue = h :: rest) :
    s.departSpur = State.notifyDeparture { s with spur := { s.spur with queue := rest, tx := .fill 0, sout := unitEnd } } h := by
  unfold State.departSpur
  rw [htx]
  dsimp only
  rw [hqueue]
  rfl

theorem departSpur_of_not_send {s : State} (h : ∀ src k, s.spur.tx ≠ .send src k) : s.departSpur = s := by
  unfold State.departSpur
  cases htx : s.spur.tx with
  | send src k => exact absurd htx (h src k)
  | fill k => rfl
  | ready => rfl

/-- Settles O44: the frame leaves its store, and its tag says what is notified. -/
theorem downstreamDeparturesNotify : Obligations.DownstreamDeparturesNotify := by
  intro s hquiet
  have hexec : exec .frameDeparts s = .next s.departDown := State.settled_of_quiet hquiet _
  refine ⟨fun src k h rest htx hsrc hframes m u hm hu => ⟨_, hexec, ?_⟩, fun h => by rw [hexec, departDown_of_not_send h]⟩
  have hleft : (s.removeHead src).setMerge { (s.removeHead src).merge with tx := .fill 0, dout := unitEnd } = u := by
    subst hu hm
    have hdrop {hs : List Held} (he : hs = h :: rest) : hs.drop 1 = rest := by rw [he]; rfl
    cases src with
    | transit => rw [← hdrop (hs := s.merge.transit) hframes]; rfl
    | spurReturn => rw [← hdrop (hs := s.merge.spurReturn) hframes]; rfl
    | insertion => rw [← hdrop (hs := s.merge.insertion) hframes]; rfl
    | reply => rfl
    | spurOut => exact absurd rfl hsrc
  rw [departDown_of_send htx hframes, hleft]
  exact ⟨notifyDeparture_untagged, fun ls htag hls => recordsDeparted_notify htag hls,
    fun c htag => notifyDeparture_condition htag ▸ breakExamined_examineBreak u⟩

/-- Settles O45: the grant and the departure of the spur transmitter. -/
theorem spurTransmitterSendsItsQueue : Obligations.SpurTransmitterSendsItsQueue := by
  intro s hquiet
  have hexec : exec (.transmitterReady .spur) s = .next s.readySpur := State.settled_of_quiet hquiet _
  have hdeparts : exec .spurFrameDeparts s = .next s.departSpur := State.settled_of_quiet hquiet _
  refine ⟨fun k hk => ?_, fun h => ?_, fun src k h rest u htx hqueue hu => ⟨_, hdeparts, ?_⟩,
    fun h => by rw [hdeparts, departSpur_of_not_send h]⟩
  · rw [hexec, readySpur_of_fill hk]
    refine congrArg _ ((spurGrantChecked_grantSpur _).trans ?_)
    simp only [true_and]
  · rw [hexec, readySpur_of_not_fill h]
  · rw [departSpur_of_send htx hqueue, ← hu]
    exact ⟨notifyDeparture_untagged, fun ls htag hls => recordsDeparted_notify htag hls⟩

end Sys2Proof.Proofs

/-! ## One unit time of both transmitters (R13, R14, R100, R104; assumption log 7) -/

namespace Sys2Proof.Proofs

open Sys2Proof Sys2Proof.Machine

/-! ### Notifications beside the other transmitter -/

/-- The part with the downstream transmitter, its output, the spur unit and the count of free values replaced: what the work of one
transmitter has of the other's. -/
def withOutputs (s : State) (tx : Tx) (dout : LineUnit) (spur : SpurUnit) (choices : Nat) : State :=
  { s with merge := { s.merge with tx := tx, dout := dout }, spur := spur, choices := choices }

theorem insert_of_busy {s : State} (h : s.merge.tx ≠ .ready) (x : Held) :
    s.insert x = { s with merge := { s.merge with insertion := s.merge.insertion ++ [x] } } := State.grantDown_of_not_ready h

section
variable {s : State} {tx : Tx} {dout : LineUnit} {spur : SpurUnit} {choices : Nat}

/-- R132: while the downstream transmitter is not READY, an EVENT build does not touch either transmitter. -/
theorem examineEvent_withOutputs (h : s.merge.tx ≠ .ready) (htx : tx ≠ .ready) :
    (withOutputs s tx dout spur choices).examineEvent = withOutputs s.examineEvent tx dout spur choices := by
  have hdue : (withOutputs s tx dout spur choices).eventDue = s.eventDue := rfl
  unfold State.examineEvent
  rw [hdue]
  split
  · unfold State.buildEvent
    rw [insert_of_busy (by exact htx), insert_of_busy (by exact h)]
    rfl
  · rfl

/-- R164: while the downstream transmitter is not READY, a BREAK build does not touch either transmitter. -/
theorem examineBreak_withOutputs (h : s.merge.tx ≠ .ready) (htx : tx ≠ .ready) (hspur : spur.state = s.spur.state) :
    (withOutputs s tx dout spur choices).examineBreak = withOutputs s.examineBreak tx dout spur choices := by
  have hunreported : (withOutputs s tx dout spur choices).unreported = s.unreported := by
    unfold State.unreported
    change (decide (s.sup.up ≠ s.sup.lastUp) || (decide (spur.state ≠ .disabled) && decide (spur.state ≠ s.sup.lastSpur))) = _
    rw [hspur]
  have hdue : (withOutputs s tx dout spur choices).breakDue = s.breakDue := by
    unfold State.breakDue
    rw [hunreported]
    rfl
  unfold State.examineBreak
  rw [hdue]
  split
  · unfold State.buildBreak
    rw [insert_of_busy (by exact htx), insert_of_busy (by exact h)]
    simp only [withOutputs, State.breakHeld, State.setSup, hspur]
  · rfl

theorem notifyDeparture_withOutputs (h : s.merge.tx ≠ .ready) (htx : tx ≠ .ready) (hspur : spur.state = s.spur.state) (x : Held) :
    (withOutputs s tx dout spur choices).notifyDeparture x = withOutputs (s.notifyDeparture x) tx dout spur choices := by
  cases htag : x.tag with
  | none => rw [notifyDeparture_untagged htag, notifyDeparture_untagged htag]
  | condition c => rw [notifyDeparture_condition htag, notifyDeparture_condition htag, examineBreak_withOutputs h htx hspur]
  | report ls =>
    unfold State.notifyDeparture
    rw [htag]
    dsimp only
    rw [moveLines_single, moveLines_single]
    have hmoved : (withOutputs s tx dout spur choices).moveGroup LineBlock.departure ls =
        withOutputs (s.moveGroup LineBlock.departure ls) tx dout spur choices := rfl
    rw [hmoved, examineEvent_withOutputs (s := s.moveGroup LineBlock.departure ls) (by exact h) htx]
    change (if LineGroup.isCause _ s.line (s.moveGroup LineBlock.departure ls).line = true then _ else _) = _
    split <;> rfl
/-- R100, R104: a departed frame's notifications enter at most one frame in the insertion queue, and change the lines and the records
of supervision alone. -/
theorem notifyDeparture_enters (s : State) (x : Held) :
    ∃ u, u = { s with line := u.line, sup := u.sup } ∧ (s.notifyDeparture x = u ∨ ∃ y, s.notifyDeparture x = u.insert y) := by
  cases htag : x.tag with
  | none => exact ⟨s, rfl, .inl (notifyDeparture_untagged htag)⟩
  | condition c =>
    rw [notifyDeparture_condition htag]
    unfold State.examineBreak
    split
    · exact ⟨s.setSup { s.sup with lastUp := s.sup.up, lastSpur := s.spur.state }, rfl, .inr ⟨_, rfl⟩⟩
    · exact ⟨s, rfl, .inl rfl⟩
  | report ls =>
    unfold State.notifyDeparture
    rw [htag]
    dsimp only
    rw [moveLines_single]
    split
    · unfold State.examineEvent
      split
      · refine ⟨_, ?_, .inr ⟨(s.moveGroup LineBlock.departure ls).eventHeld, rfl⟩⟩
        rfl
      · exact ⟨s.moveGroup LineBlock.departure ls, rfl, .inl rfl⟩
    · exact ⟨s.moveGroup LineBlock.departure ls, rfl, .inl rfl⟩

/-- A departed frame's notifications leave the spur unit, and the unit that the downstream transmitter sends. -/
theorem notifyDeparture_outputs (s : State) (x : Held) : (s.notifyDeparture x).spur = s.spur ∧ (s.notifyDeparture x).merge.dout = s.merge.dout := by
  obtain ⟨u, hu, hnotify | ⟨y, hnotify⟩⟩ := notifyDeparture_enters s x
  · rw [hnotify, hu]
    exact ⟨rfl, rfl⟩
  · rw [hnotify, State.insert_spur, State.insert_merge_dout, hu]
    exact ⟨rfl, rfl⟩

/-- While the downstream transmitter is not READY, a departed frame's notifications leave it, and the head of every store. -/
theorem notifyDeparture_busy {s : State} (h : s.merge.tx ≠ .ready) (x : Held) :
    (s.notifyDeparture x).merge.tx = s.merge.tx ∧
      ∀ src y rest, s.framesOf src = y :: rest → ∃ more, (s.notifyDeparture x).framesOf src = y :: more := by
  obtain ⟨u, hu, hnotify | ⟨z, hnotify⟩⟩ := notifyDeparture_enters s x
  · rw [hnotify, hu]
    exact ⟨rfl, fun src y rest hframes => ⟨rest, by rw [← hframes]; rfl⟩⟩
  · have hbusy : u.merge.tx ≠ .ready := by
      rw [hu]
      exact h
    rw [hnotify, insert_of_busy hbusy, hu]
    refine ⟨rfl, fun src y rest hframes => ?_⟩
    cases src with
    | insertion =>
      have hinsertion : s.merge.insertion = y :: rest := hframes
      exact ⟨rest ++ [z], by simp [State.framesOf, hinsertion]⟩
    | transit | spurReturn | spurOut | reply => exact ⟨rest, hframes⟩

/-- R98: a grant is never one of the spur-out queue. -/
theorem grantDown_not_spurOut {s : State} (h : ∀ n, s.merge.tx ≠ .send .spurOut n) (n : Nat) : s.grantDown.merge.tx ≠ .send .spurOut n := by
  have hcycle : ∀ i, cycleSource i ≠ .spurOut := by decide
  by_cases hready : s.merge.tx = .ready
  · by_cases hfull : ∃ ds, s.mgmt.reply = .full ds
    · obtain ⟨ds, hfull⟩ := hfull
      rw [State.grantDown_reply hready hfull]
      nofun
    · rw [not_exists] at hfull
      cases hwin : s.cycleWinner with
      | none => rw [State.grantDown_none hfull hwin]; exact h n
      | some i =>
        rw [State.grantDown_queue hready hfull hwin]
        exact fun he => hcycle i (Tx.send.inj he).1
  · rw [State.grantDown_of_not_ready hready]
    exact h n

theorem notifyDeparture_not_spurOut {s : State} (h : ∀ n, s.merge.tx ≠ .send .spurOut n) (x : Held) (n : Nat) :
    (s.notifyDeparture x).merge.tx ≠ .send .spurOut n := by
  obtain ⟨u, hu, hnotify | ⟨z, hnotify⟩⟩ := notifyDeparture_enters s x
  · rw [hnotify, hu]
    exact h n
  · rw [hnotify]
    refine grantDown_not_spurOut (fun m => ?_) n
    rw [hu]
    exact h m

end

/-! ### One unit of a frame -/

theorem unitsOf_eq {s : State} {src : Source} {h : Held} {rest : List Held} (hframes : s.framesOf src = h :: rest) :
    s.unitsOf src = lineUnits h.digits := by
  unfold State.unitsOf
  rw [hframes]
  rfl

theorem length_lineUnits (ds : List Digit) : (lineUnits ds).length = ds.length + 2 := by
  simp [lineUnits]

/-- R14: unit `k` of a frame, up to its last digit. -/
theorem getD_lineUnits {ds : List Digit} {k : Nat} (h : k ≤ ds.length) :
    some ((lineUnits ds).getD k unitIdle) = ([unitStart] ++ ds.map unitData)[k]? := by
  have hlt : k < ([unitStart] ++ ds.map unitData).length := by simp; omega
  have hunits : lineUnits ds = ([unitStart] ++ ds.map unitData) ++ [unitEnd] := rfl
  rw [hunits, List.getD_append _ _ _ _ hlt, List.getD_eq_getElem _ _ hlt, List.getElem?_eq_getElem hlt]

/-! ### One unit of the spur transmitter -/

/-- R14: the units of the frame at the head of the spur-out queue. -/
def spurUnits (x : SpurUnit) : List LineUnit :=
  match x.queue.head? with
  | some h => lineUnits h.digits
  | none => [unitEnd]

/-- R13, R14, R104: the spur unit after one unit time. -/
def spurSent (x : SpurUnit) : SpurUnit :=
  match x.tx with
  | .fill 0 => { x with tx := .fill 1, sout := unitIdle }
  | .fill (_ + 1) => { x with tx := if x.state ≠ .disabled ∧ x.queue ≠ [] then .send .spurOut 0 else .ready, sout := unitIdle }
  | .ready => { x with sout := unitIdle }
  | .send src k =>
    if (spurUnits x).length ≤ k + 1 then { x with queue := x.queue.drop 1, tx := .fill 0, sout := unitEnd }
    else { x with tx := .send src (k + 1), sout := (spurUnits x).getD k unitIdle }

/-- R104: the frame that departs on the spur in one unit time. -/
def spurDeparted (x : SpurUnit) : Option Held :=
  match x.tx with
  | .send _ k => if (spurUnits x).length ≤ k + 1 then x.queue.head? else none
  | .fill _ => none
  | .ready => none

/-- The notifications of a frame that may have departed. -/
def notified (s : State) (departed : Option Held) : State :=
  match departed with
  | some x => s.notifyDeparture x
  | none => s

theorem readySpur_eq {s : State} {k : Nat} (h : s.spur.tx = .fill k) :
    s.readySpur = { s with spur := { s.spur with
      tx := if s.spur.state ≠ .disabled ∧ s.spur.queue ≠ [] then .send .spurOut 0 else .ready, sout := unitIdle } } := by
  rw [readySpur_of_fill h]
  refine (spurGrantChecked_grantSpur _).trans ?_
  simp only [true_and]

theorem sendSpur_eq (s : State) : s.sendSpur = notified { s with spur := spurSent s.spur } (spurDeparted s.spur) := by
  unfold State.sendSpur spurSent spurDeparted
  cases htx : s.spur.tx with
  | ready => simp only [State.setSpur, htx, notified]
  | fill k =>
    cases k with
    | zero => rfl
    | succ k => exact readySpur_eq htx
  | send src k =>
    change (if (spurUnits s.spur).length ≤ k + 1 then s.departSpur else _) = _
    dsimp only
    split
    · unfold State.departSpur
      rw [htx]
      dsimp only
      cases s.spur.queue.head? <;> rfl
    · rfl

theorem spurSent_state (x : SpurUnit) : (spurSent x).state = x.state := by
  unfold spurSent
  split
  case h_4 => split <;> rfl
  all_goals rfl

theorem spurDeparted_of_idle {x : SpurUnit} (h : ∀ src n, x.tx ≠ .send src n) : spurDeparted x = none := by
  unfold spurDeparted
  cases htx : x.tx with
  | send src n => exact absurd htx (h src n)
  | fill k => rfl
  | ready => rfl

theorem sendSpur_of_idle {s : State} (h : ∀ src n, s.spur.tx ≠ .send src n) : s.sendSpur = { s with spur := spurSent s.spur } := by
  rw [sendSpur_eq, spurDeparted_of_idle h]
  rfl

theorem sendSpur_spur (s : State) : s.sendSpur.spur = spurSent s.spur := by
  rw [sendSpur_eq]
  cases spurDeparted s.spur with
  | none => rfl
  | some x => exact (notifyDeparture_outputs _ x).1

/-- What a unit on the spur leaves of the output downstream. -/
theorem sendSpur_dout (s : State) : s.sendSpur.merge.dout = s.merge.dout := by
  rw [sendSpur_eq]
  cases spurDeparted s.spur with
  | none => rfl
  | some x => exact (notifyDeparture_outputs _ x).2

theorem sendSpur_not_spurOut {s : State} (h : ∀ n, s.merge.tx ≠ .send .spurOut n) (n : Nat) : s.sendSpur.merge.tx ≠ .send .spurOut n := by
  rw [sendSpur_eq]
  cases spurDeparted s.spur with
  | none => exact h n
  | some x => exact notifyDeparture_not_spurOut (s := { s with spur := spurSent s.spur }) h x n

/-- While the downstream transmitter is not READY, a unit on the spur leaves it, and the heads of its stores. -/
theorem sendSpur_busy {s : State} (h : s.merge.tx ≠ .ready) :
    s.sendSpur.merge.tx = s.merge.tx ∧
      ∀ src y rest, src ≠ .spurOut → s.framesOf src = y :: rest → ∃ more, s.sendSpur.framesOf src = y :: more := by
  have hframes (src : Source) (hsrc : src ≠ .spurOut) : State.framesOf { s with spur := spurSent s.spur } src = s.framesOf src := by
    cases src with
    | spurOut => exact absurd rfl hsrc
    | _ => rfl
  rw [sendSpur_eq]
  cases spurDeparted s.spur with
  | none => exact ⟨rfl, fun src y rest hsrc hhead => ⟨rest, (hframes src hsrc).trans hhead⟩⟩
  | some x =>
    obtain ⟨htx, hheads⟩ := notifyDeparture_busy (s := { s with spur := spurSent s.spur }) h x
    exact ⟨htx, fun src y rest hsrc hhead => hheads src y rest ((hframes src hsrc).trans hhead)⟩

/-- R14: one unit on the spur, whatever the downstream transmitter does meanwhile, while it is not READY. -/
theorem sendSpur_withOutputs {s : State} {tx : Tx} (h : s.merge.tx ≠ .ready) (htx : tx ≠ .ready) (dout : LineUnit) (choices : Nat) :
    State.sendSpur { s with merge := { s.merge with tx := tx, dout := dout }, choices := choices } =
      { s.sendSpur with merge := { s.sendSpur.merge with tx := tx, dout := dout }, choices := choices } := by
  rw [sendSpur_eq, sendSpur_eq]
  dsimp only
  cases spurDeparted s.spur with
  | none => rfl
  | some x =>
    have hnotify := notifyDeparture_withOutputs (s := { s with spur := spurSent s.spur }) (dout := dout) (choices := choices)
      (spur := spurSent s.spur) h htx rfl x
    refine hnotify.trans ?_
    change _ = withOutputs (State.notifyDeparture { s with spur := spurSent s.spur } x) tx dout
      (State.notifyDeparture { s with spur := spurSent s.spur } x).spur choices
    rw [(notifyDeparture_outputs _ x).1]

theorem spurUnits_eq {x : SpurUnit} {h : Held} {rest : List Held} (hqueue : x.queue = h :: rest) : spurUnits x = lineUnits h.digits := by
  unfold spurUnits
  rw [hqueue]
  rfl

/-! ### One unit of the downstream transmitter -/

theorem sendDown_of_fill_zero {s : State} (h : s.merge.tx = .fill 0) :
    s.sendDown = { s with merge := { s.merge with tx := .fill 1, dout := unitIdle } } := by
  unfold State.sendDown
  rw [h]
  rfl

theorem sendDown_of_fill_succ {s : State} {k : Nat} (h : s.merge.tx = .fill (k + 1)) : s.sendDown = s.readyDown := by
  unfold State.sendDown
  rw [h]
  exact if_pos (by simp [Config.fillIdles])

theorem sendDown_of_ready {s : State} (h : s.merge.tx = .ready) : s.sendDown = { s with merge := { s.merge with dout := unitIdle } } := by
  unfold State.sendDown
  rw [h]
  simp only [State.setMerge, h]

/-- R14: a transmitter in SEND sends the next unit of its frame, or departs it. -/
theorem sendDown_of_send {s : State} {src : Source} {k : Nat} (h : s.merge.tx = .send src k) :
    s.sendDown = if (s.unitsOf src).length ≤ k + 1 then s.departDown
      else { s with merge := { s.merge with tx := .send src (k + 1), dout := (s.unitsOf src).getD k unitIdle } } := by
  unfold State.sendDown
  rw [h]
  rfl

theorem sendDown_of_frame {s : State} {src : Source} {k : Nat} {h : Held} {rest : List Held} (htx : s.merge.tx = .send src k)
    (hframes : s.framesOf src = h :: rest) :
    (k ≤ h.digits.length → s.sendDown.merge.tx = .send src (k + 1) ∧
      some s.sendDown.merge.dout = ([unitStart] ++ h.digits.map unitData)[k]?) ∧
    (h.digits.length < k → s.sendDown = s.departDown) := by
  rw [sendDown_of_send htx, unitsOf_eq hframes, length_lineUnits]
  refine ⟨fun hk => ?_, fun hk => if_pos (by omega)⟩
  rw [if_neg (by omega)]
  exact ⟨rfl, getD_lineUnits hk⟩

section
variable {s : State} {spur : SpurUnit}

/-- R100: a frame's departure downstream, whatever the spur transmitter does meanwhile. -/
theorem notifyDeparture_otherSpur (h : s.merge.tx ≠ .ready) (hspur : spur.state = s.spur.state) (choices : Nat) (x : Held) :
    State.notifyDeparture { s with spur := spur, choices := choices } x = { s.notifyDeparture x with spur := spur, choices := choices } := by
  have hkept : withOutputs (s.notifyDeparture x) s.merge.tx s.merge.dout spur choices =
      { s.notifyDeparture x with spur := spur, choices := choices } := by
    rw [← (notifyDeparture_busy h x).1, ← (notifyDeparture_outputs s x).2]
    rfl
  exact (notifyDeparture_withOutputs (dout := s.merge.dout) (choices := choices) h h hspur x).trans hkept

theorem departDown_otherSpur (hsrc : ∀ n, s.merge.tx ≠ .send .spurOut n) (hspur : spur.state = s.spur.state) (choices : Nat) :
    State.departDown { s with spur := spur, choices := choices } = { s.departDown with spur := spur, choices := choices } := by
  unfold State.departDown
  cases htx : s.merge.tx with
  | fill k => rfl
  | ready => rfl
  | send src k =>
    dsimp only
    have hne : src ≠ .spurOut := fun he => hsrc k (he ▸ htx)
    have hframes : State.framesOf { s with spur := spur, choices := choices } src = s.framesOf src := by
      cases src with
      | spurOut => exact absurd rfl hne
      | _ => rfl
    have hleft : (State.removeHead { s with spur := spur, choices := choices } src).setMerge
        { (State.removeHead { s with spur := spur, choices := choices } src).merge with tx := .fill 0, dout := unitEnd } =
        { (s.removeHead src).setMerge { (s.removeHead src).merge with tx := .fill 0, dout := unitEnd } with
          spur := spur, choices := choices } := by
      cases src with
      | spurOut => exact absurd rfl hne
      | _ => rfl
    have hstate : spur.state = (s.removeHead src).spur.state := by
      rw [hspur]
      cases src <;> rfl
    rw [hframes, hleft]
    cases (s.framesOf src).head? with
    | none => rfl
    | some x =>
      exact notifyDeparture_otherSpur (s := (s.removeHead src).setMerge { (s.removeHead src).merge with tx := .fill 0, dout := unitEnd })
        nofun hstate choices x

theorem grantDown_otherSpur (choices : Nat) :
    State.grantDown { s with spur := spur, choices := choices } = { s.grantDown with spur := spur, choices := choices } := by
  rw [grantDown_of_same (s := s) (t := { s with spur := spur, choices := choices }) rfl rfl, grantDown_of_same (s := s) (t := s) rfl rfl]

theorem readyDown_otherSpur (choices : Nat) :
    State.readyDown { s with spur := spur, choices := choices } = { s.readyDown with spur := spur, choices := choices } := by
  by_cases hfill : ∃ k, s.merge.tx = .fill k
  · obtain ⟨k, hk⟩ := hfill
    rw [readyDown_of_fill hk, readyDown_of_fill (s := { s with spur := spur, choices := choices }) hk]
    exact grantDown_otherSpur (s := { s with merge := { s.merge with tx := .ready, dout := unitIdle } }) choices
  · rw [not_exists] at hfill
    rw [readyDown_of_not_fill hfill, readyDown_of_not_fill (s := { s with spur := spur, choices := choices }) hfill]

/-- R14: one unit downstream, whatever the spur transmitter does meanwhile. -/
theorem sendDown_otherSpur (hsrc : ∀ n, s.merge.tx ≠ .send .spurOut n) (hspur : spur.state = s.spur.state) (choices : Nat) :
    State.sendDown { s with spur := spur, choices := choices } = { s.sendDown with spur := spur, choices := choices } := by
  cases htx : s.merge.tx with
  | fill k =>
    cases k with
    | zero => rw [sendDown_of_fill_zero htx, sendDown_of_fill_zero (s := { s with spur := spur, choices := choices }) htx]
    | succ k =>
      rw [sendDown_of_fill_succ htx, sendDown_of_fill_succ (s := { s with spur := spur, choices := choices }) htx]
      exact readyDown_otherSpur choices
  | ready => rw [sendDown_of_ready htx, sendDown_of_ready (s := { s with spur := spur, choices := choices }) htx]
  | send src k =>
    have hunits : State.unitsOf { s with spur := spur, choices := choices } src = s.unitsOf src := by
      cases src with
      | spurOut => exact absurd htx (hsrc k)
      | _ => rfl
    rw [sendDown_of_send htx, sendDown_of_send (s := { s with spur := spur, choices := choices }) htx, hunits]
    split
    · exact departDown_otherSpur hsrc hspur choices
    · rfl

/-- A unit downstream leaves the spur unit, unless it ends a frame of the spur-out queue. -/
theorem sendDown_spur (hsrc : ∀ n, s.merge.tx ≠ .send .spurOut n) : s.sendDown.spur = s.spur :=
  have hsame := sendDown_otherSpur (s := s) (spur := s.spur) hsrc rfl s.choices
  (congrArg State.spur hsame :)

end

/-- What a unit downstream leaves of the spur transmitter and its output, whatever frame it may end. -/
theorem sendDown_spur_output (s : State) : s.sendDown.spur.tx = s.spur.tx ∧ s.sendDown.spur.sout = s.spur.sout := by
  by_cases hsrc : ∀ n, s.merge.tx ≠ .send .spurOut n
  · rw [sendDown_spur hsrc]
    exact ⟨rfl, rfl⟩
  · obtain ⟨k, hk⟩ := not_forall_not.mp hsrc
    rw [sendDown_of_send hk]
    split
    · unfold State.departDown
      rw [hk]
      dsimp only
      cases (s.framesOf .spurOut).head? with
      | none => exact ⟨rfl, rfl⟩
      | some x =>
        dsimp only
        rw [(notifyDeparture_outputs _ x).1]
        exact ⟨rfl, rfl⟩
    · exact ⟨rfl, rfl⟩

/-! ### Both transmitters -/

/-- One unit time of both transmitters, in either order. -/
def BothSent (s t : State) : Prop :=
  ∃ choices, t = State.sendDown (State.sendSpur { s with choices := choices }) ∨
    t = State.sendSpur (State.sendDown { s with choices := choices })

theorem bothSent_unitTime (s : State) : BothSent s s.unitTime := by
  unfold State.unitTime
  split
  · exact ⟨s.choices + 1, .inl rfl⟩
  · split
    · exact ⟨s.choices + 1, .inr rfl⟩
    · exact ⟨s.choices, .inr rfl⟩

section
variable {s t : State}

/-- Beside a spur transmitter that is not in SEND, the downstream one does what it does alone. -/
theorem BothSent.of_idle_spur (h : BothSent s t) (hspur : ∀ x n, s.spur.tx ≠ .send x n) (hsrc : ∀ n, s.merge.tx ≠ .send .spurOut n) :
    ∃ choices, t = { s.sendDown with spur := spurSent s.spur, choices := choices } := by
  obtain ⟨c, rfl | rfl⟩ := h
  · refine ⟨c, ?_⟩
    rw [sendSpur_of_idle (s := { s with choices := c }) hspur]
    exact sendDown_otherSpur hsrc (spurSent_state s.spur) c
  · refine ⟨c, ?_⟩
    have hdown := sendDown_otherSpur (s := s) (spur := s.spur) hsrc rfl c
    rw [hdown]
    exact sendSpur_of_idle (s := { s.sendDown with spur := s.spur, choices := c }) hspur

theorem BothSent.spur (h : BothSent s t) (hsrc : ∀ n, s.merge.tx ≠ .send .spurOut n) : t.spur = spurSent s.spur := by
  obtain ⟨c, rfl | rfl⟩ := h
  · rw [sendDown_spur (sendSpur_not_spurOut (s := { s with choices := c }) hsrc), sendSpur_spur]
  · rw [sendSpur_spur, sendDown_spur (s := { s with choices := c }) hsrc]

theorem spurSent_of_fill_zero {x : SpurUnit} (h : x.tx = .fill 0) : (spurSent x).tx = .fill 1 ∧ (spurSent x).sout = unitIdle := by
  unfold spurSent
  rw [h]
  exact ⟨rfl, rfl⟩

theorem BothSent.spur_of_fill_zero (h : BothSent s t) (hfill : s.spur.tx = .fill 0) : t.spur.tx = .fill 1 ∧ t.spur.sout = unitIdle := by
  obtain ⟨c, rfl | rfl⟩ := h
  · rw [(sendDown_spur_output _).1, (sendDown_spur_output _).2, sendSpur_spur]
    exact spurSent_of_fill_zero hfill
  · rw [sendSpur_spur]
    exact spurSent_of_fill_zero ((sendDown_spur_output _).1.trans hfill)

theorem departDown_left {src : Source} {k : Nat} {h : Held} {rest : List Held} (htx : s.merge.tx = .send src k)
    (hframes : s.framesOf src = h :: rest) : s.departDown.merge.tx = .fill 0 ∧ s.departDown.merge.dout = unitEnd := by
  rw [departDown_of_send htx hframes, (notifyDeparture_busy _ h).1, (notifyDeparture_outputs _ h).2]
  · exact ⟨rfl, rfl⟩
  · nofun

/-- R14: the downstream transmitter sends its frame, whatever the spur one does. -/
theorem BothSent.frame (hsent : BothSent s t) {src : Source} {k : Nat} {h : Held} {rest : List Held} (htx : s.merge.tx = .send src k)
    (hsrc : src ≠ .spurOut) (hframes : s.framesOf src = h :: rest) :
    (k ≤ h.digits.length → t.merge.tx = .send src (k + 1) ∧ some t.merge.dout = ([unitStart] ++ h.digits.map unitData)[k]?) ∧
    (h.digits.length < k → t.merge.tx = .fill 0 ∧ t.merge.dout = unitEnd) := by
  obtain ⟨c, rfl | rfl⟩ := hsent
  · obtain ⟨hkept, hheads⟩ := sendSpur_busy (s := { s with choices := c }) (by rw [htx]; nofun)
    obtain ⟨more, hmore⟩ := hheads src h rest hsrc hframes
    obtain ⟨hnext, hlast⟩ := sendDown_of_frame (hkept.trans htx) hmore
    exact ⟨hnext, fun hk => hlast hk ▸ departDown_left (hkept.trans htx) hmore⟩
  · obtain ⟨hnext, hlast⟩ := sendDown_of_frame (s := { s with choices := c }) htx hframes
    refine ⟨fun hk => ?_, fun hk => ?_⟩
    · rw [(sendSpur_busy (by rw [(hnext hk).1]; nofun)).1, sendSpur_dout]
      exact hnext hk
    · obtain ⟨hfill, hend⟩ := departDown_left (s := { s with choices := c }) htx hframes
      rw [hlast hk, (sendSpur_busy (by rw [hfill]; nofun)).1, sendSpur_dout]
      exact ⟨hfill, hend⟩

theorem BothSent.of_fill_zero (h : BothSent s t) (hfill : s.merge.tx = .fill 0) : t.merge.tx = .fill 1 ∧ t.merge.dout = unitIdle := by
  obtain ⟨c, rfl | rfl⟩ := h
  · rw [sendDown_of_fill_zero ((sendSpur_busy (s := { s with choices := c }) (by rw [hfill]; nofun)).1.trans hfill)]
    exact ⟨rfl, rfl⟩
  · rw [sendDown_of_fill_zero (s := { s with choices := c }) hfill, (sendSpur_busy (show Tx.fill 1 ≠ .ready by nofun)).1, sendSpur_dout]
    exact ⟨rfl, rfl⟩

theorem readyDown_dout {k : Nat} (hfill : s.merge.tx = .fill k) : s.readyDown.merge.dout = unitIdle := by
  rw [readyDown_of_fill hfill, State.grantDown_merge_dout]

theorem BothSent.dout_of_fill_succ (h : BothSent s t) {k : Nat} (hfill : s.merge.tx = .fill (k + 1)) : t.merge.dout = unitIdle := by
  obtain ⟨c, rfl | rfl⟩ := h
  · have hkept := (sendSpur_busy (s := { s with choices := c }) (by rw [hfill]; nofun)).1.trans hfill
    rw [sendDown_of_fill_succ hkept, readyDown_dout hkept]
  · rw [sendSpur_dout, sendDown_of_fill_succ (s := { s with choices := c }) hfill, readyDown_dout (s := { s with choices := c }) hfill]

/-- R14: the spur unit while it sends a frame. -/
theorem spurSent_of_frame {x : SpurUnit} {src : Source} {k : Nat} {h : Held} {rest : List Held} (htx : x.tx = .send src k)
    (hqueue : x.queue = h :: rest) :
    (k ≤ h.digits.length → (spurSent x).tx = .send src (k + 1) ∧ some (spurSent x).sout = ([unitStart] ++ h.digits.map unitData)[k]?) ∧
    (h.digits.length < k → spurSent x = { x with queue := rest, tx := .fill 0, sout := unitEnd }) := by
  unfold spurSent
  rw [htx]
  dsimp only
  rw [spurUnits_eq hqueue, length_lineUnits]
  refine ⟨fun hk => ?_, fun hk => ?_⟩
  · rw [if_neg (by omega)]
    exact ⟨rfl, getD_lineUnits hk⟩
  · rw [if_pos (by omega), hqueue]
    rfl

theorem sendSpur_of_departs {src : Source} {k : Nat} {h : Held} {rest : List Held} (htx : s.spur.tx = .send src k)
    (hqueue : s.spur.queue = h :: rest) (hk : h.digits.length < k) : s.sendSpur = s.departSpur := by
  unfold State.sendSpur
  rw [htx]
  dsimp only
  rw [if_pos]
  rw [unitsOf_eq (s := s) (src := .spurOut) hqueue, length_lineUnits]
  omega

/-- R104: a departure on the spur beside a downstream transmitter that sends its first IDLE. -/
theorem BothSent.of_departure (hsent : BothSent s t) (hfill : s.merge.tx = .fill 0) :
    ∃ choices, t = { s.sendSpur with merge := { s.sendSpur.merge with tx := .fill 1, dout := unitIdle }, choices := choices } := by
  have hbusy : s.merge.tx ≠ .ready := by rw [hfill]; nofun
  obtain ⟨c, rfl | rfl⟩ := hsent
  · refine ⟨c, ?_⟩
    have hspur := sendSpur_withOutputs hbusy hbusy s.merge.dout c
    change State.sendDown (State.sendSpur { s with merge := { s.merge with tx := s.merge.tx, dout := s.merge.dout }, choices := c }) = _
    rw [hspur]
    exact sendDown_of_fill_zero hfill
  · refine ⟨c, ?_⟩
    rw [sendDown_of_fill_zero (s := { s with choices := c }) hfill]
    exact sendSpur_withOutputs hbusy (show Tx.fill 1 ≠ .ready by nofun) unitIdle c

end

/-- Settles O2: the unit time of both transmitters, by what each does alone and what it leaves of the other. -/
theorem emptyQueueSendsTheNextUnits : Obligations.EmptyQueueSendsTheNextUnits := by
  intro s hpending hquiet
  have hsent := bothSent_unitTime s
  have hstep : step s = .next s.unitTime := by
    unfold step
    rw [hpending]
    dsimp only
    rw [State.idle, hquiet.1, if_neg Bool.false_ne_true, State.settle_of_quiet hquiet.2]
  have hdown : exec .frameDeparts s = .next s.departDown := State.settled_of_quiet hquiet _
  have hspur : exec .spurFrameDeparts s = .next s.departSpur := State.settled_of_quiet hquiet _
  have hreadyDown : exec (.transmitterReady .downstream) s = .next s.readyDown := State.settled_of_quiet hquiet _
  have hreadySpur : exec (.transmitterReady .spur) s = .next s.readySpur := State.settled_of_quiet hquiet _
  refine ⟨s.unitTime, hstep, fun src k h rest htx hsrc hframes => ?_, fun src k h rest htx hqueue => ?_, hsent.of_fill_zero,
    hsent.spur_of_fill_zero, fun k hfill => ⟨hsent.dout_of_fill_succ hfill, fun hidle => ?_⟩, fun k hfill hout => ?_,
    fun hready hidle => ?_, fun hready hout => ?_⟩
  · obtain ⟨hnext, hlast⟩ := hsent.frame htx hsrc hframes
    refine ⟨hnext, fun hk => ⟨(hlast hk).1, (hlast hk).2, fun hidle => ⟨_, hdown, ?_⟩⟩⟩
    obtain ⟨c, ht⟩ := hsent.of_idle_spur hidle fun n hn => hsrc (Tx.send.inj (htx.symm.trans hn)).1
    rw [ht, (sendDown_of_frame htx hframes).2 hk]
  · obtain ⟨hnext, hlast⟩ := spurSent_of_frame htx hqueue
    refine ⟨fun hk hout => hsent.spur hout ▸ hnext hk, fun hk hout => ?_⟩
    rw [hsent.spur hout, hlast hk]
    refine ⟨rfl, rfl, rfl, fun hfill => ⟨_, hspur, ?_⟩⟩
    obtain ⟨c, ht⟩ := hsent.of_departure hfill
    rw [ht, sendSpur_of_departs htx hqueue hk]
  · refine ⟨_, hreadyDown, ?_⟩
    obtain ⟨c, ht⟩ := hsent.of_idle_spur hidle fun n hn => by rw [hfill] at hn; cases hn
    rw [ht, sendDown_of_fill_succ hfill]
  · refine ⟨_, hreadySpur, ?_⟩
    rw [hsent.spur hout, readySpur_eq hfill]
    unfold spurSent
    rw [hfill]
  · obtain ⟨c, ht⟩ := hsent.of_idle_spur hidle fun n hn => by rw [hready] at hn; cases hn
    rw [ht, sendDown_of_ready hready]
  · rw [hsent.spur hout]
    unfold spurSent
    simp only [hready]

end Sys2Proof.Proofs

/-! ## The service tick and the sample time (R105, R113 to R117, R122, R132, R160) -/

namespace Sys2Proof.Proofs

open Sys2Proof Sys2Proof.Machine

/-! ### The service tick (R105, R160) -/

theorem tick_frame (s : State) : s.tick = { s.tickCounts with due := s.tick.due, choices := s.tick.choices } := by
  unfold State.tick
  dsimp only
  split
  · split <;> rfl
  · split
    · rfl
    · split <;> rfl

theorem silenceReached_tickCounts_iff (s : State) :
    s.tickCounts.silenceReached = true ↔ s.sup.up = .live ∧ s.sup.silenceTime.toNat ≤ min (s.sup.silenceCount + 1) 15 := by
  unfold State.silenceReached
  rw [Bool.and_eq_true, decide_eq_true_eq, decide_eq_true_eq]
  exact Iff.rfl

theorem watchReached_tickCounts_iff (s : State) :
    s.tickCounts.watchReached = true ↔ s.spur.state = .closed ∧ s.spur.watchTime.toNat ≤ min (s.spur.watchCount + 1) 15 := by
  unfold State.watchReached
  rw [Bool.and_eq_true, decide_eq_true_eq, decide_eq_true_eq]
  exact Iff.rfl

/-- R105, R160: what a tick makes due. -/
theorem mem_tick_due {s : State} (h : s.due = []) (d : Due) :
    d ∈ s.tick.due ↔ d = .upstreamSilence ∧ s.tickCounts.silenceReached = true ∨ d = .spurWatchExpiry ∧ s.tickCounts.watchReached = true := by
  have hdue : s.tickCounts.due = [] := h
  unfold State.tick
  dsimp only
  cases hsilence : s.tickCounts.silenceReached <;> cases hwatch : s.tickCounts.watchReached
  · simp [hdue]
  · simp [hdue]
  · simp [hdue]
  · simp only [Bool.and_self, if_true]
    split
    · simp [hdue]
    · simp [hdue, or_comm]

/-- Settles O46: the risen counts, and what they make due. -/
theorem serviceTickRaisesTheCounts : Obligations.ServiceTickRaisesTheCounts := by
  intro s hquiet
  refine ⟨s.tick, State.settled_of_quiet hquiet _, tick_frame s, ?_, ?_, fun d hd => ?_⟩
  · rw [mem_tick_due hquiet.2, silenceReached_tickCounts_iff]
    simp
  · rw [mem_tick_due hquiet.2, watchReached_tickCounts_iff]
    simp
  · exact ((mem_tick_due hquiet.2 d).mp hd).imp And.left And.left

/-! ### The sample time (R113 to R117, R122, R132) -/

/-- R113, R114: the level that a sample sees. -/
theorem pinLevel_eq (s : State) (pins : BitVec 12) (l : Fin 12) : s.line.pinLevel pins l = levelAt s pins l := by
  have hbit : s.line.latchBit l = true ↔
      ∃ (i : Fin 3) (j : Fin 4), l.val = 4 * i.val + j.val ∧ (s.line.latches[i]).getLsbD j.val = true := by
    constructor
    · intro h
      exact ⟨⟨l.val / 4, by omega⟩, ⟨l.val % 4, by omega⟩, by simp only []; omega, h⟩
    · rintro ⟨i, j, hl, h⟩
      have hi : l.val / 4 = i.val := by omega
      have hj : l.val % 4 = j.val := by omega
      simp only [LineBlock.latchBit, hi, hj]
      exact h
  unfold LineBlock.pinLevel LineBlock.driven levelAt
  split
  next h =>
    have hdriven : (decide ((s.line.lines[l]).mode = .output) && s.line.latchBit l) = true := by
      rw [Bool.and_eq_true, decide_eq_true_eq]
      exact ⟨h.1, hbit.mpr h.2⟩
    rw [hdriven]
    simp
  next h =>
    have hdriven : (decide ((s.line.lines[l]).mode = .output) && s.line.latchBit l) = false := by
      rw [← Bool.not_eq_true, Bool.and_eq_true, decide_eq_true_eq, hbit]
      exact h
    rw [hdriven]
    simp

theorem selects_iff (e : Edge) {before after : Bool} (h : after ≠ before) :
    e.selects before after = true ↔ e = .falling ∧ after = false ∨ e = .rising ∧ after = true ∨ e = .both := by
  obtain rfl : before = !after := Bool.eq_not.mpr h.symm
  cases e <;> cases after <;> decide

/-- R117: a sample gives a line a qualified edge. -/
theorem edgeAt_iff (x : Line) (level : Bool) : x.edgeAt level = true ↔ edgeSeen x level := by
  unfold Line.edgeAt edgeSeen
  rw [Bool.and_eq_true, decide_eq_true_eq]
  refine and_congr_right fun hmode => ?_
  have hsample : (x.sample level).qualified = if level ≠ x.qualified ∧ x.hold.toNat ≤ x.run.toNat + 1 then level else x.qualified := by
    unfold Line.sample
    rw [if_pos (by simp [hmode])]
    by_cases hlevel : level = x.qualified
    · rw [if_pos hlevel, if_neg (by simp [hlevel])]
    · by_cases hhold : x.hold.toNat ≤ x.run.toNat + 1
      · rw [if_neg hlevel, if_pos hhold, if_pos ⟨hlevel, hhold⟩]
      · rw [if_neg hlevel, if_neg hhold, if_neg (by simp [hhold])]
  rw [hsample]
  by_cases hqualifies : level ≠ x.qualified ∧ x.hold.toNat ≤ x.run.toNat + 1
  · rw [if_pos hqualifies]
    obtain ⟨hlevel, hhold⟩ := hqualifies
    rw [selects_iff x.edge hlevel]
    exact ⟨fun h => ⟨hlevel, hhold, h⟩, fun h => h.2.2⟩
  · rw [if_neg hqualifies]
    have hnone : x.edge.selects x.qualified x.qualified = false := by
      cases x.edge <;> cases x.qualified <;> rfl
    rw [hnone, ← and_assoc]
    simp [hqualifies]

theorem edgesAt_eq (s : State) (pins : BitVec 12) : s.line.edgesAt pins = edgesSeen s pins := by
  unfold LineBlock.edgesAt edgesSeen
  refine congrArg _ (List.filter_congr fun l _ => ?_)
  rw [pinLevel_eq]
  exact Bool.eq_iff_iff.mpr ((edgeAt_iff _ _).trans decide_eq_true_iff.symm)

theorem edgesSeen_nodup (s : State) (pins : BitVec 12) : (edgesSeen s pins).Nodup := by
  unfold edgesSeen
  refine ((List.nodup_finRange 12).filter _).map fun a b h => ?_
  exact Fin.ext (by simpa [pinLine] using h)

/-- The lines moved, told of a state that differs in fields of lines that the moves do not read, and in the order of the lines. -/
theorem linesMoved_congr {s u t : State} {named named' ls : List (Fin 13)} {move : Fin 13 → Catch → Catch} {gone : Prop}
    (hline : u.line = { s.line with lines := u.line.lines }) (hadr : u.adr = s.adr) (hinserted : u.inserted .event = s.inserted .event)
    (hnamed : ∀ l, l ∈ named ↔ l ∈ named') (h : LinesMoved u t move named gone ls) : LinesMoved s t move named' gone ls := by
  have hcatch (l : Fin 13) : u.line.catchOf l = s.line.catchOf l := by rw [hline]; rfl
  have hmoved (ms : List (Fin 13)) (l : Fin 13) : movedCatch u.line move ms l = movedCatch s.line move ms l := by
    rw [movedCatch, movedCatch, hcatch]
  have hmembers (l : Fin 13) : movedCatch s.line move named l = movedCatch s.line move named' l := by
    rw [movedCatch, movedCatch]
    simp only [hnamed]
  have hmode : u.line.reportMode = s.line.reportMode ∧ u.line.reportAddr = s.line.reportAddr ∧ u.line.eventSeq = s.line.eventSeq := by
    rw [hline]
    exact ⟨rfl, rfl, rfl⟩
  have hevent : eventTold u t ls = eventTold s t ls := by
    unfold eventTold
    rw [hadr, hmode.2.1, hmode.2.2]
  unfold LinesMoved at h ⊢
  simp only [hcatch, hmoved, hmembers, hinserted, hmode.1, hmode.2.1, hmode.2.2, hadr, hevent, hnamed] at h
  refine ⟨h.1.trans ?_, h.2⟩
  rw [hline]

/-- The EVENT entered, told of a state that differs in fields of lines and in the count of free values. -/
theorem eventEntered_congr {s u t : State} {ls : List (Fin 13)} (hstate : u = { s with line := u.line, choices := u.choices })
    (hline : u.line = { s.line with lines := u.line.lines }) (h : EventEntered u t ls) : EventEntered s t ls := by
  have hevent : eventTold u t ls = eventTold s t ls := by
    unfold eventTold
    rw [hstate]
    dsimp only
    rw [hline]
  have hbase : { u with line := t.line, choices := t.choices } = { s with line := t.line, choices := t.choices } := by rw [hstate]
  unfold EventEntered at h ⊢
  rwa [hevent, hbase] at h

theorem retire_sampleAll (b : LineBlock) (pins : BitVec 12) (l : Fin 13) : (b.sampleAll pins).retire l = b.retire l := by
  unfold LineBlock.retire LineBlock.sampleAll
  split
  next h =>
    change (tabulate (fun l : Fin 12 => b.lines[l].sample (b.pinLevel pins l)))[(⟨l.val, h⟩ : Fin 12)].retire = _
    rw [tabulate_getElem]
    exact (sample_settings _ _).2.2.2
  next => rfl

/-- Settles O50: the samples, and then the edges, in whatever order they move. -/
theorem samplesQualifyTheLines : Obligations.SamplesQualifyTheLines := by
  intro s pins hquiet
  obtain ⟨u, order, hu, hperm, htaken⟩ : ∃ (u : State) (order : List (Fin 13)),
      u = { s with line := s.line.sampleAll pins, choices := u.choices } ∧ order.Perm (edgesSeen s pins) ∧
        s.sampleLines pins = u.moveLines LineBlock.edge (order.map .ofEdge) := by
    unfold State.sampleLines State.handEdges
    rw [edgesAt_eq]
    split
    · exact ⟨State.consume { s with line := s.line.sampleAll pins }, _, rfl, anyOrder_perm _ _, rfl⟩
    · exact ⟨{ s with line := s.line.sampleAll pins }, _, rfl, List.Perm.refl _, rfl⟩
  obtain ⟨ls, hmoved, hentered, hlines⟩ := linesMoved_edges u (hperm.nodup_iff.mpr (edgesSeen_nodup s pins))
  rw [← htaken] at hmoved hentered hlines
  have hmove : edgeMove u.line = edgeMove s.line := by
    funext l k
    rw [hu, edgeMove, edgeMove, retire_sampleAll]
  rw [hmove] at hmoved
  refine ⟨s.sampleLines pins, ls, State.settled_of_quiet hquiet fun t => t.sampleLines pins,
    linesMoved_congr (by rw [hu]; rfl) (by rw [hu]) (by rw [hu]; rfl) (fun l => hperm.mem_iff) hmoved, ?_, fun hpoll => ?_, fun l x level hx hlevel => ?_⟩
  · exact eventEntered_congr (by rw [hu]) (by rw [hu]; rfl) hentered
  · have hedges := State.handEdges_of_poll (s.setLines (s.line.sampleAll pins)) (s.line.edgesAt pins) hpoll
    rw [State.sampleLines, hedges]
    rfl
  · have hsampled : (s.sampleLines pins).line.lines[l] = x.sample level := by
      rw [hlines, hu]
      change (tabulate (fun l : Fin 12 => s.line.lines[l].sample (s.line.pinLevel pins l)))[l] = _
      rw [tabulate_getElem, pinLevel_eq, hx, hlevel]
    rw [hsampled]
    unfold Line.sample
    refine ⟨fun hmode => if_neg ?_, fun hmode => ⟨fun heq => ?_, fun hne hshort => ?_, fun hne hlong => ?_⟩⟩
    · rcases hmode with hmode | hmode <;> simp [hmode]
    all_goals rw [if_pos (by rcases hmode with hmode | hmode <;> simp [hmode])]
    · rw [if_pos heq]
    · rw [if_neg hne, if_neg (by omega)]
    · rw [if_neg hne, if_pos hlong]

end Sys2Proof.Proofs

/-! ## Restores (R106, R162 to R164) -/

namespace Sys2Proof.Proofs

open Sys2Proof Sys2Proof.Machine

/-- R96 to R99: what a check for a grant can change. -/
theorem grantDown_frame (s : State) : s.grantDown = { s with
    merge := { s.merge with pointer := s.grantDown.merge.pointer, tx := s.grantDown.merge.tx }
    mgmt := { s.mgmt with reply := s.grantDown.mgmt.reply } } := by
  unfold State.grantDown
  split
  · split
    · rfl
    · split <;> rfl
  · rfl

/-- R94, R96: what an insertion changes. -/
theorem insert_frame (s : State) (x : Held) : s.insert x = { s with
    merge := { s.merge with
      insertion := s.merge.insertion ++ [x], pointer := (s.insert x).merge.pointer, tx := (s.insert x).merge.tx }
    mgmt := { s.mgmt with reply := (s.insert x).mgmt.reply } } := grantDown_frame (s.setMerge { s.merge with insertion := s.merge.insertion ++ [x] })

/-- R164: what the examination for a BREAK can change. -/
theorem examineBreak_frame (s : State) : s.examineBreak = { s with
    merge := { s.merge with
      insertion := s.examineBreak.merge.insertion, pointer := s.examineBreak.merge.pointer, tx := s.examineBreak.merge.tx }
    mgmt := { s.mgmt with reply := s.examineBreak.mgmt.reply }
    sup := { s.sup with lastUp := s.examineBreak.sup.lastUp, lastSpur := s.examineBreak.sup.lastSpur } } := by
  unfold State.examineBreak
  split
  · unfold State.buildBreak
    rw [insert_frame]
    rfl
  · rfl

/-- R9, R39: what follows the taking of a frame at a receiver. -/
def swapDueAfter (p : Port) (t : State) : State :=
  match p with
  | .upstream => if t.mgmt.commit.isSome then t.addDue .swap else t
  | .spur => t

/-- A whole frame at a receiver between frames is noted and taken. -/
theorem arrive_taken {s : State} {p : Port} {e : Ending} {ds : List Digit} (hrx : (s.rx p).state ≠ .assemble)
    (hears : p = .spur → s.spur.state ≠ .disabled) :
    s.arrive p e ds = swapDueAfter p ((s.arrived p (afterEnding e)).take p e ds) := by
  rw [State.arrive, if_neg fun hd => hears ((deaf_iff s p).mp hd).1 ((deaf_iff s p).mp hd).2, startArrives_of_between hrx]
  cases p <;> rfl

/-- R106, R162: an intact frame is handled in the state that it restores. -/
theorem take_of_restored {s t : State} {p : Port} {f : Frame} (hf : f.payload.length ≤ 15)
    (h : s.restoreByFrame p = t.restoreByFrame p) : s.take p .ended f.digits = t.take p .ended f.digits := by
  rw [State.take, State.take, classify_digits f hf]
  change s.takeIntact p f = t.takeIntact p f
  unfold State.takeIntact
  rw [h]

/-- A frame that is taken on the state that its restore leaves does what it does as the one that restores. -/
theorem exec_takeFrame_restored {s v : State} {p : Port} {f : Frame} (hf : f.payload.length ≤ 15) (hquiet : s.Quiet)
    (hrx : (s.rx p).state ≠ .assemble) (hears : p = .spur → s.spur.state ≠ .disabled) (hvquiet : v.Quiet)
    (hvrx : (v.rx p).state ≠ .assemble) (hvears : p = .spur → v.spur.state ≠ .disabled)
    (harrived : v.arrived p .reset = v) (hrestored : (s.arrived p .reset).restoreByFrame p = v) (hstays : v.restoreByFrame p = v) :
    exec (.takeFrame p .ended f.digits) v = exec (.takeFrame p .ended f.digits) s := by
  have htake : (v.arrived p .reset).take p .ended f.digits = (s.arrived p .reset).take p .ended f.digits :=
    take_of_restored hf (by rw [harrived, hstays, hrestored])
  rw [exec_takeFrame_of_quiet hvquiet, exec_takeFrame_of_quiet hquiet, arrive_taken hvrx hvears, arrive_taken hrx hears]
  exact congrArg (fun t => Host.Outcome.next (swapDueAfter p t)) htake

/-- The part after a restore of an input by a frame: its receiver is in HUNT, and the state of its line, and the counts, are those that a
frame leaves. -/
structure Restored (s : State) (p : Port) : Prop where
  rx : s.rx p = .reset
  gap : p = .upstream → s.gapCount = 0
  up : p = .upstream → s.sup.up = .live ∧ s.sup.silenceCount = 0
  spur : p = .spur → s.spur.state = .closed ∧ s.spur.watchCount = 0

theorem Restored.arrived {s : State} {p : Port} (h : Restored s p) : s.arrived p .reset = s := by
  cases p with
  | upstream =>
    obtain ⟨hlive, hsilence⟩ := h.up rfl
    have hgap := h.gap rfl
    have hrx : s.upRx = .reset := h.rx
    have hsup : { s.sup with silenceCount := 0 } = s.sup := by rw [← hsilence]
    unfold State.arrived State.noted
    dsimp only
    rw [if_neg (by rw [hlive]; nofun), hsup, ← hgap, ← hrx]
  | spur =>
    obtain ⟨hclosed, hwatch⟩ := h.spur rfl
    have hrx : s.spurRx = .reset := h.rx
    have hspur : { s.spur with watchCount := 0 } = s.spur := by rw [← hwatch]
    unfold State.arrived State.noted
    dsimp only
    rw [if_neg (by rw [hclosed]; nofun), hspur, ← hrx]

theorem Restored.stays {s : State} {p : Port} (h : Restored s p) : s.restoreByFrame p = s := by
  cases p with
  | upstream => exact if_neg (by rw [(h.up rfl).1]; nofun)
  | spur => exact if_neg (by rw [(h.spur rfl).1]; nofun)

theorem restored_examineBreak {s : State} {p : Port} (h : Restored s p) : Restored s.examineBreak p := by
  rw [examineBreak_frame]
  cases p <;> exact ⟨h.rx, h.gap, h.up, h.spur⟩

theorem quiet_examineBreak {s : State} (h : s.Quiet) : s.examineBreak.Quiet := by
  rw [examineBreak_frame]
  exact h

/-- R106, R162: an intact frame restores, and is then handled as it is in the restored state. -/
theorem exec_takeFrame_restores {s u : State} {p : Port} {f : Frame} (hf : f.payload.length ≤ 15) (hquiet : s.Quiet)
    (hrx : (s.rx p).state ≠ .assemble) (hears : p = .spur → s.spur.state ≠ .disabled) (hu : u.Quiet) (hrestored : Restored u p)
    (hrestore : (s.arrived p .reset).restoreByFrame p = u.examineBreak) :
    exec (.takeFrame p .ended f.digits) u.examineBreak = exec (.takeFrame p .ended f.digits) s := by
  have hv := restored_examineBreak hrestored
  refine exec_takeFrame_restored hf hquiet hrx hears (quiet_examineBreak hu) (by rw [hv.rx]; nofun) (fun hp => ?_) hv.arrived hrestore hv.stays
  rw [(hv.spur hp).1]
  nofun

/-- Settles O49: the restore by a frame and by 64 IDLEs is one change. -/
theorem restoresAreCountedAndReported : Obligations.RestoresAreCountedAndReported := by
  refine ⟨fun s f hquiet hf => ⟨fun hrx hsilent => ?_, fun hrx hopen => ?_⟩, fun s hlow => ⟨fun hdue hsilent => ?_,
    fun hdue hopen => ?_, fun hdue hlive => ?_, fun hdue hnot => ?_⟩⟩
  · refine ⟨_, _, _, exec_takeFrame_of_quiet hquiet _ _ _, counted_count _ _, breakExamined_examineBreak _,
      (exec_takeFrame_restores (p := .upstream) hf hquiet hrx nofun (by exact hquiet) ?_ (if_pos hsilent)).trans (exec_takeFrame_of_quiet hquiet _ _ _)⟩
    exact ⟨rfl, fun _ => rfl, fun _ => ⟨rfl, rfl⟩, nofun⟩
  · refine ⟨_, _, _, exec_takeFrame_of_quiet hquiet _ _ _, counted_count _ _, breakExamined_examineBreak _,
      (exec_takeFrame_restores (p := .spur) hf hquiet hrx (fun _ => by rw [hopen]; nofun) (by exact hquiet) ?_ (if_pos hopen)).trans
        (exec_takeFrame_of_quiet hquiet _ _ _)⟩
    exact ⟨rfl, nofun, nofun, fun _ => ⟨rfl, rfl⟩⟩
  · refine ⟨_, _, ?_, counted_count _ _, breakExamined_examineBreak _⟩
    change s.answer (fun t => t.takeDue .upstreamRestore) = _
    rw [answer_of_running hlow]
    refine congrArg Host.Outcome.next ((State.takeDue_of_due hdue).trans ?_)
    exact if_pos hsilent
  · refine ⟨_, _, ?_, counted_count _ _, breakExamined_examineBreak _⟩
    change s.answer (fun t => t.takeDue .spurRestore) = _
    rw [answer_of_running hlow]
    refine congrArg Host.Outcome.next ((State.takeDue_of_due hdue).trans ?_)
    exact if_pos hopen
  · change s.answer (fun t => t.takeDue .upstreamRestore) = _
    rw [answer_of_running hlow]
    refine congrArg Host.Outcome.next ((State.takeDue_of_due hdue).trans ?_)
    exact if_neg (by rw [show (s.setDue (s.due.erase .upstreamRestore)).sup.up = .live from hlive]; nofun)
  · change s.answer (fun t => t.takeDue .spurRestore) = _
    rw [answer_of_running hlow]
    refine congrArg Host.Outcome.next ((State.takeDue_of_due hdue).trans ?_)
    exact if_neg hnot

end Sys2Proof.Proofs

/-! ## What the causes of an EVENT and of a BREAK leave to one another (R122, R128, R132, R164; assumption log 3) -/

namespace Sys2Proof.Proofs

open Sys2Proof Sys2Proof.Machine

/-! ### The rest of the part -/

/-- `t` has everything of `s` but the lines, the insertion queue, the grants, the records of supervision and the count of free values. -/
structure KeepsRest (s t : State) : Prop where
  resetLow : t.resetLow = s.resetLow
  rate : t.rate = s.rate
  adr : t.adr = s.adr
  upRx : t.upRx = s.upRx
  spurRx : t.spurRx = s.spurRx
  gapCount : t.gapCount = s.gapCount
  map : t.map = s.map
  run : t.run = s.run
  spur : t.spur = s.spur
  transit : t.merge.transit = s.merge.transit
  spurReturn : t.merge.spurReturn = s.merge.spurReturn
  manager0 : t.mgmt.manager0 = s.mgmt.manager0
  manager1 : t.mgmt.manager1 = s.mgmt.manager1
  last : t.mgmt.last = s.mgmt.last
  commit : t.mgmt.commit = s.mgmt.commit
  sup : t.sup = { s.sup with lastUp := t.sup.lastUp, lastSpur := t.sup.lastSpur }

theorem KeepsRest.refl (s : State) : KeepsRest s s := ⟨rfl, rfl, rfl, rfl, rfl, rfl, rfl, rfl, rfl, rfl, rfl, rfl, rfl, rfl, rfl, rfl⟩

theorem KeepsRest.trans {s t u : State} (h : KeepsRest s t) (k : KeepsRest t u) : KeepsRest s u where
  resetLow := k.resetLow.trans h.resetLow
  rate := k.rate.trans h.rate
  adr := k.adr.trans h.adr
  upRx := k.upRx.trans h.upRx
  spurRx := k.spurRx.trans h.spurRx
  gapCount := k.gapCount.trans h.gapCount
  map := k.map.trans h.map
  run := k.run.trans h.run
  spur := k.spur.trans h.spur
  transit := k.transit.trans h.transit
  spurReturn := k.spurReturn.trans h.spurReturn
  manager0 := k.manager0.trans h.manager0
  manager1 := k.manager1.trans h.manager1
  last := k.last.trans h.last
  commit := k.commit.trans h.commit
  sup := by
    calc u.sup = { t.sup with lastUp := u.sup.lastUp, lastSpur := u.sup.lastSpur } := k.sup
      _ = { s.sup with lastUp := u.sup.lastUp, lastSpur := u.sup.lastSpur } := by rw [h.sup]

theorem keepsRest_of_eventEffect {s t : State} (h : EventEffect s t) : KeepsRest s t := by
  obtain ⟨hlow, hrate, hadr, hup, hspurRx, hgap, hmap, hrun, hspur, hsup, -, -, htransit, hreturn, -, hmanager0, hmanager1, hlast, hcommit⟩ :=
    h.frame
  exact ⟨hlow, hrate, hadr, hup, hspurRx, hgap, hmap, hrun, hspur, htransit, hreturn, hmanager0, hmanager1, hlast, hcommit, by rw [hsup]⟩

theorem keepsRest_tellEdge (s : State) (before : BitVec 8) : KeepsRest s (s.tellEdge before) :=
  keepsRest_of_eventEffect (eventEffect_tellEdge s before)

theorem keepsRest_examineBreak (s : State) : KeepsRest s s.examineBreak := by
  rw [examineBreak_frame]
  exact ⟨rfl, rfl, rfl, rfl, rfl, rfl, rfl, rfl, rfl, rfl, rfl, rfl, rfl, rfl, rfl, rfl⟩

section
variable {s t : State}

theorem KeepsRest.count (h : KeepsRest s t) (c : Counter) : KeepsRest (s.count c) (t.count c) := by
  refine { h with sup := ?_ }
  unfold State.count
  dsimp only [State.setSup]
  rw [h.sup]
  rfl

theorem KeepsRest.rawLatch (h : KeepsRest s t) (l : Latch) : KeepsRest (s.rawLatch l) (t.rawLatch l) := by
  refine { h with sup := ?_ }
  unfold State.rawLatch
  dsimp only [State.setSup]
  rw [h.sup]

theorem KeepsRest.latches (h : KeepsRest s t) : t.sup.latches = s.sup.latches := by rw [h.sup]

end

/-! ### The lines -/

/-- `t` has the lines of `s`, its address, and no other EVENT; its insertion queue has lost no frame. -/
structure KeepsLines (s t : State) : Prop where
  line : t.line = s.line
  adr : t.adr = s.adr
  inserted : t.inserted .event = s.inserted .event
  queue : ∀ x ∈ s.merge.insertion, x ∈ t.merge.insertion

theorem KeepsLines.refl (s : State) : KeepsLines s s := ⟨rfl, rfl, rfl, fun _ hx => hx⟩

theorem KeepsLines.trans {s t u : State} (h : KeepsLines s t) (k : KeepsLines t u) : KeepsLines s u :=
  ⟨k.line.trans h.line, k.adr.trans h.adr, k.inserted.trans h.inserted, fun x hx => k.queue x (h.queue x hx)⟩

/-- An operation on other fields. -/
theorem KeepsLines.of_same {s t : State} (hline : t.line = s.line) (hadr : t.adr = s.adr) (hqueue : t.merge.insertion = s.merge.insertion) :
    KeepsLines s t := ⟨hline, hadr, by rw [State.inserted, hqueue]; rfl, fun x hx => by rwa [hqueue]⟩

theorem inserted_insert_of_ne {s : State} {x : Held} {k : Kind} (h : x.kind ≠ k) : (s.insert x).inserted k = s.inserted k := by
  rw [insert_frame, State.inserted, State.inserted]
  simp [List.filter_append, h]

theorem mem_insert (s : State) {x y : Held} (h : y ∈ s.merge.insertion) : y ∈ (s.insert x).merge.insertion := by
  rw [insert_frame]
  exact List.mem_append_left _ h

theorem breakHeld_kind (s : State) : s.breakHeld.kind = .breakReport := rfl

theorem keepsLines_examineBreak (s : State) : KeepsLines s s.examineBreak := by
  unfold State.examineBreak
  split
  · refine ⟨?_, ?_, inserted_insert_of_ne (by rw [breakHeld_kind]; nofun), fun x hx => mem_insert _ hx⟩
    · exact State.insert_line _ _
    · exact State.insert_adr _ _
  · exact .refl s

section
variable {s t u : State} {move : Fin 13 → Catch → Catch} {named ls : List (Fin 13)} {gone : Prop}

theorem LinesMoved.after (h : LinesMoved s t move named gone ls) (k : KeepsLines t u) : LinesMoved s u move named gone ls := by
  have hevent : eventTold s u ls = eventTold s t ls := by
    unfold eventTold
    rw [k.line]
  unfold LinesMoved at h ⊢
  rw [k.line, k.inserted, hevent]
  obtain ⟨hsame, hbuilt, hseq, hinserted, hqueue, hrest⟩ := h
  exact ⟨hsame, hbuilt, hseq, hinserted, fun hne => k.queue _ (hqueue hne), hrest⟩

theorem LinesMoved.before (h : LinesMoved t u move named gone ls) (k : KeepsLines s t) : LinesMoved s u move named gone ls :=
  linesMoved_congr (by rw [k.line]) k.adr k.inserted (fun _ => Iff.rfl) h

theorem linesMoved_none (s : State) (move : Fin 13 → Catch → Catch) : LinesMoved s s move [] False [] := by
  refine ⟨rfl, by simp, rfl, rfl, fun h => absurd rfl h, [], by simp, by simp, fun l => by simp [movedCatch]⟩

end

/-- R128: what telling the line unit of the latches does to the lines. -/
theorem linesMoved_tellEdge {s : State} (h : s.sup.latches ≠ 0#8) (before : BitVec 8) :
    ∃ ls, LinesMoved s (s.tellEdge before) (edgeMove s.line) (if s.adr ≠ Config.broadcast ∧ before = 0#8 then [pseudoLine] else []) False ls ∧
      EventEntered s (s.tellEdge before) ls ∧ (s.tellEdge before).line.lines = s.line.lines := by
  unfold State.tellEdge
  by_cases hedge : s.adr ≠ Config.broadcast ∧ before = 0#8
  · rw [if_pos (by simp [State.addressed, hedge.1, hedge.2, h]), if_pos hedge]
    exact linesMoved_edges s (List.nodup_singleton _)
  · rw [if_neg (by simpa [State.addressed, h] using hedge), if_neg hedge]
    refine ⟨[], linesMoved_none s _, ?_, rfl⟩
    rw [EventEntered, if_pos rfl]

/-! ### The BREAK -/

/-- `t` has what the examination for a BREAK reads of `s`, but the states that it reports, and no other BREAK; its insertion queue has
lost no frame. -/
structure KeepsReports (s t : State) : Prop where
  adr : t.adr = s.adr
  reportAddr : t.line.reportAddr = s.line.reportAddr
  inserted : t.inserted .breakReport = s.inserted .breakReport
  lastUp : t.sup.lastUp = s.sup.lastUp
  lastSpur : t.sup.lastSpur = s.sup.lastSpur
  queue : ∀ x ∈ s.merge.insertion, x ∈ t.merge.insertion

theorem KeepsReports.refl (s : State) : KeepsReports s s := ⟨rfl, rfl, rfl, rfl, rfl, fun _ hx => hx⟩

theorem KeepsReports.trans {s t u : State} (h : KeepsReports s t) (k : KeepsReports t u) : KeepsReports s u :=
  ⟨k.adr.trans h.adr, k.reportAddr.trans h.reportAddr, k.inserted.trans h.inserted, k.lastUp.trans h.lastUp, k.lastSpur.trans h.lastSpur,
    fun x hx => k.queue x (h.queue x hx)⟩

theorem KeepsReports.of_same {s t : State} (hadr : t.adr = s.adr) (hline : t.line = s.line) (hup : t.sup.lastUp = s.sup.lastUp)
    (hspur : t.sup.lastSpur = s.sup.lastSpur) (hqueue : t.merge.insertion = s.merge.insertion) : KeepsReports s t :=
  ⟨hadr, by rw [hline], by rw [State.inserted, hqueue]; rfl, hup, hspur, fun x hx => by rwa [hqueue]⟩

/-- R164: what becomes of the BREAK that reports these states of the part, with this generation. -/
def BreakTold (s t : State) (up : UpState) (spur : SpurState) (generation : Digit) : Prop :=
  if s.adr ≠ Config.broadcast ∧ s.line.reportAddr ≠ s.adr ∧ s.inserted .breakReport = 0 ∧
      (up ≠ s.sup.lastUp ∨ spur ≠ .disabled ∧ spur ≠ s.sup.lastSpur) then
    t.sup.lastUp = up ∧ t.sup.lastSpur = spur ∧
    ∃ h ∈ t.merge.insertion, h.digits = (breakFrame s.adr s.line.reportAddr up spur generation).digits ∧
      h.tag = .condition { oldUp := s.sup.lastUp, oldSpur := s.sup.lastSpur, newUp := up, newSpur := spur }
  else t.sup.lastUp = s.sup.lastUp ∧ t.sup.lastSpur = s.sup.lastSpur ∧ t.inserted .breakReport = s.inserted .breakReport

theorem breakTold_examineBreak (s : State) : BreakTold s s.examineBreak s.sup.up s.spur.state s.map.generation := by
  unfold BreakTold State.examineBreak
  by_cases h : s.breakDue = true
  · rw [if_pos ((breakDue_iff s).mp h), if_pos h, State.buildBreak, insert_frame]
    exact ⟨rfl, rfl, s.breakHeld, List.mem_append_right _ (List.mem_singleton.mpr rfl), rfl, rfl⟩
  · rw [if_neg fun hc => h ((breakDue_iff s).mpr hc), if_neg h]
    exact ⟨rfl, rfl, rfl⟩

section
variable {s t u : State} {up : UpState} {spur : SpurState} {g : Digit}

theorem BreakTold.after (h : BreakTold s t up spur g) (k : KeepsReports t u) : BreakTold s u up spur g := by
  unfold BreakTold at h ⊢
  rw [k.lastUp, k.lastSpur, k.inserted]
  by_cases hdue : s.adr ≠ Config.broadcast ∧ s.line.reportAddr ≠ s.adr ∧ s.inserted .breakReport = 0 ∧
      (up ≠ s.sup.lastUp ∨ spur ≠ .disabled ∧ spur ≠ s.sup.lastSpur)
  · rw [if_pos hdue] at h ⊢
    obtain ⟨hup, hspur, x, hx, htold⟩ := h
    exact ⟨hup, hspur, x, k.queue x hx, htold⟩
  · rw [if_neg hdue] at h ⊢
    exact h

theorem BreakTold.before (h : BreakTold t u up spur g) (k : KeepsReports s t) : BreakTold s u up spur g := by
  unfold BreakTold at h ⊢
  rwa [k.adr, k.reportAddr, k.inserted, k.lastUp, k.lastSpur] at h

end

/-- `t` has lost no frame of the insertion queue, and has no other BREAK. -/
def KeepsBreaks (s t : State) : Prop :=
  t.inserted .breakReport = s.inserted .breakReport ∧ ∀ x ∈ s.merge.insertion, x ∈ t.merge.insertion

theorem KeepsBreaks.refl (s : State) : KeepsBreaks s s := ⟨rfl, fun _ hx => hx⟩

theorem KeepsBreaks.trans {s t u : State} (h : KeepsBreaks s t) (k : KeepsBreaks t u) : KeepsBreaks s u :=
  ⟨k.1.trans h.1, fun x hx => k.2 x (h.2 x hx)⟩

theorem eventHeld_kind (s : State) : s.eventHeld.kind = .event := rfl

/-- R132: an EVENT build leaves the BREAK. -/
theorem keepsBreaks_examineEvent (s : State) : KeepsBreaks s s.examineEvent := by
  unfold State.examineEvent
  split
  · exact ⟨inserted_insert_of_ne (by rw [eventHeld_kind]; nofun), fun x hx => mem_insert _ hx⟩
  · exact .refl s

theorem keepsBreaks_moveEager (move : LineBlock → Fin 13 → LineBlock) (groups : List LineGroup) (s : State) :
    KeepsBreaks s (s.moveEager move groups) := by
  induction groups generalizing s with
  | nil => exact .refl s
  | cons g rest ih =>
    have hmove : KeepsBreaks s (s.moveGroup move g.lines) := ⟨rfl, fun _ hx => hx⟩
    refine KeepsBreaks.trans ?_ (ih _)
    split
    · exact hmove.trans (keepsBreaks_examineEvent _)
    · exact hmove

theorem keepsBreaks_moveLines (move : LineBlock → Fin 13 → LineBlock) (groups : List LineGroup) (s : State) :
    KeepsBreaks s (s.moveLines move groups) := by
  have hconsume : KeepsBreaks s s.consume := ⟨rfl, fun _ hx => hx⟩
  unfold State.moveLines
  split
  · exact hconsume.trans (keepsBreaks_moveEager _ _ _)
  · exact keepsBreaks_moveEager _ _ _

theorem keepsBreaks_tellEdge (s : State) (before : BitVec 8) : KeepsBreaks s (s.tellEdge before) := by
  unfold State.tellEdge
  split
  · exact keepsBreaks_moveLines _ _ _
  · exact .refl s

theorem keepsReports_tellEdge {s : State} (h : s.sup.latches ≠ 0#8) (before : BitVec 8) : KeepsReports s (s.tellEdge before) := by
  obtain ⟨ls, ⟨hline, -⟩, -, -⟩ := linesMoved_tellEdge h before
  obtain ⟨-, -, hadr, -, -, -, -, -, -, hsup, -⟩ := (eventEffect_tellEdge s before).frame
  obtain ⟨hinserted, hqueue⟩ := keepsBreaks_tellEdge s before
  exact ⟨hadr, by rw [hline], hinserted, by rw [hsup], by rw [hsup], hqueue⟩

end Sys2Proof.Proofs

/-! ## The changes to SILENT and to OPEN (R12, R105, R156, R161, R163, R164; assumption log 3) -/

namespace Sys2Proof.Proofs

open Sys2Proof Sys2Proof.Machine

/-! ### A latch and a BREAK in either order -/

theorem keepsLines_count (s : State) (c : Counter) : KeepsLines s (s.count c) := .of_same rfl rfl rfl

theorem keepsReports_count (s : State) (c : Counter) : KeepsReports s (s.count c) := .of_same rfl rfl rfl rfl rfl

/-- R128: what a latch does to the lines. -/
theorem linesMoved_latch (s : State) (l : Latch) :
    (∃ ls, LinesMoved s (s.latch l) (edgeMove s.line) (latchEdges s) False ls) ∧ (s.latch l).line.lines = s.line.lines := by
  obtain ⟨ls, hmoved, -, hlines⟩ := linesMoved_tellEdge (rawLatch_latches_ne_zero s l) s.sup.latches
  exact ⟨⟨ls, LinesMoved.before hmoved (KeepsLines.of_same rfl rfl rfl)⟩, hlines⟩

theorem keepsReports_latch (s : State) (l : Latch) : KeepsReports s (s.latch l) :=
  (KeepsReports.of_same rfl rfl rfl rfl rfl : KeepsReports s (s.rawLatch l)).trans (keepsReports_tellEdge (rawLatch_latches_ne_zero s l) _)

theorem keepsRest_latch (s : State) (l : Latch) : KeepsRest (s.rawLatch l) (s.latch l) := keepsRest_tellEdge _ _

theorem keepsLines_latch {s : State} (h : s.sup.latches ≠ 0#8) (l : Latch) : KeepsLines s (s.latch l) := by
  rw [latch_of_quiet (.inr h)]
  exact .of_same rfl rfl rfl

/-- R163, R164, R167: CONDITION has been set and R164 examined, in either order. -/
structure ConditionTold (s t : State) : Prop where
  rest : KeepsRest (s.rawLatch .condition) t
  moved : ∃ ls, LinesMoved s t (edgeMove s.line) (latchEdges s) False ls
  lines : t.line.lines = s.line.lines
  calm : s.sup.latches ≠ 0#8 → KeepsLines s t
  told : BreakTold s t s.sup.up s.spur.state s.map.generation

theorem conditionTold_latch_first (s : State) : ConditionTold s (s.latch .condition).examineBreak := by
  obtain ⟨⟨ls, hmoved⟩, hlines⟩ := linesMoved_latch s .condition
  have hrest := keepsRest_latch s .condition
  have hbreak := keepsLines_examineBreak (s.latch .condition)
  refine ⟨hrest.trans (keepsRest_examineBreak _), ⟨ls, LinesMoved.after hmoved hbreak⟩, by rw [hbreak.line, hlines],
    fun h => (keepsLines_latch h _).trans hbreak, ?_⟩
  have htold := BreakTold.before (breakTold_examineBreak (s.latch .condition)) (keepsReports_latch s .condition)
  rw [hrest.sup, hrest.spur, hrest.map] at htold
  exact htold

theorem conditionTold_break_first (s : State) : ConditionTold s (s.examineBreak.latch .condition) := by
  have hbreak := keepsLines_examineBreak s
  have hrest := keepsRest_examineBreak s
  obtain ⟨⟨ls, hmoved⟩, hlines⟩ := linesMoved_latch s.examineBreak .condition
  have hedges : latchEdges s.examineBreak = latchEdges s := by
    unfold latchEdges
    rw [hrest.adr, hrest.latches]
  rw [hedges, hbreak.line] at hmoved
  exact ⟨(hrest.rawLatch _).trans (keepsRest_latch _ _), ⟨ls, LinesMoved.before hmoved hbreak⟩, by rw [hlines, hbreak.line],
    fun h => hbreak.trans (keepsLines_latch (by rwa [hrest.latches]) _),
    BreakTold.after (breakTold_examineBreak s) (keepsReports_latch _ _)⟩

theorem ConditionTold.of_consume {s t : State} (h : ConditionTold s.consume t) : ConditionTold s t := by
  obtain ⟨ls, hmoved⟩ := h.moved
  have hlines : KeepsLines s s.consume := .of_same rfl rfl rfl
  have hreports : KeepsReports s s.consume := .of_same rfl rfl rfl rfl rfl
  have hrest : KeepsRest s s.consume := ⟨rfl, rfl, rfl, rfl, rfl, rfl, rfl, rfl, rfl, rfl, rfl, rfl, rfl, rfl, rfl, rfl⟩
  exact ⟨(hrest.rawLatch _).trans h.rest, ⟨ls, LinesMoved.before hmoved hlines⟩, h.lines, fun hl => hlines.trans (h.calm hl), BreakTold.before h.told hreports⟩

theorem conditionTold_eitherOrder (s : State) : ConditionTold s (s.eitherOrder (fun t => t.latch .condition) State.examineBreak) := by
  unfold State.eitherOrder
  split
  · split
    · exact (conditionTold_latch_first _).of_consume
    · exact (conditionTold_break_first _).of_consume
  · exact conditionTold_latch_first s

/-! ### The change to OPEN (R105) -/

theorem countOf_of_counters {x y : Supervision} (h : x.counters = y.counters) (c : Counter) : x.countOf c = y.countOf c := by
  rw [Supervision.countOf, h]
  rfl

theorem isSet_of_latches {x y : Supervision} (h : x.latches = y.latches) (l : Latch) : x.isSet l = y.isSet l := by
  rw [Supervision.isSet, h]
  rfl

theorem changeCounted_of_one {s t : State} (h : t.sup.counters = (s.count .changes).sup.counters) : changeCounted s t false := by
  intro c
  rw [countOf_of_counters h, (counted_count s .changes).1 c]
  by_cases hc : c = .changes
  · rw [if_pos hc, if_pos (.inl hc), hc]
  · rw [if_neg hc, if_neg (by simp [hc])]

theorem changeCounted_of_two {s t : State} {a b : Counter} (hab : a = .changes ∧ b = .malformed ∨ a = .malformed ∧ b = .changes)
    (h : t.sup.counters = ((s.count a).count b).sup.counters) : changeCounted s t true := by
  intro c
  have hne : a ≠ b := by rcases hab with ⟨rfl, rfl⟩ | ⟨rfl, rfl⟩ <;> decide
  have hboth : c = .changes ∨ c = .malformed ∧ true = true ↔ c = a ∨ c = b := by
    rcases hab with ⟨rfl, rfl⟩ | ⟨rfl, rfl⟩
    · simp
    · simp [or_comm]
  refine Eq.trans ?_ (if_congr hboth rfl rfl).symm
  rw [countOf_of_counters h, (counted_count (s.count a) b).1 c, (counted_count s a).1 b, (counted_count s a).1 c, if_neg hne.symm]
  by_cases hb : c = b
  · rw [if_pos hb, if_pos (.inr hb), hb]
  · rw [if_neg hb]
    by_cases ha : c = a
    · rw [if_pos ha, if_pos (.inl ha), ha]
    · rw [if_neg ha, if_neg (not_or.mpr ⟨ha, hb⟩)]

theorem conditionLatched_of_one {s t : State} (h : t.sup.latches = (s.rawLatch .condition).sup.latches) : conditionLatched s t false := by
  intro l
  rw [isSet_of_latches h, State.isSet_rawLatch, Bool.and_false, Bool.or_false]

theorem conditionLatched_of_two {s t : State} {a b : Latch} (hab : a = .condition ∧ b = .lineError ∨ a = .lineError ∧ b = .condition)
    (h : t.sup.latches = ((s.rawLatch a).rawLatch b).sup.latches) : conditionLatched s t true := by
  intro l
  rw [isSet_of_latches h, State.isSet_rawLatch, State.isSet_rawLatch, Bool.and_true]
  rcases hab with ⟨rfl, rfl⟩ | ⟨rfl, rfl⟩
  · rfl
  · rw [Bool.or_right_comm]

/-- R105, R12: what the change to OPEN has done once the frame under assembly is dropped. -/
def spurOpened (s : State) (busy : Bool) : State :=
  let t := { s with due := s.due.erase .spurWatchExpiry, spur := { s.spur with state := .opened, restoreCount := 0 } }
  if busy then (({ t with spurRx := .reset } : State).count .malformed).rawLatch .lineError else t

theorem spurOpened_fields (s : State) (busy : Bool) :
    (spurOpened s busy).upRx = s.upRx ∧ (spurOpened s busy).gapCount = s.gapCount ∧ (spurOpened s busy).map = s.map ∧
      (spurOpened s busy).run = s.run ∧ (spurOpened s busy).merge.transit = s.merge.transit ∧
      (spurOpened s busy).merge.spurReturn = s.merge.spurReturn ∧ (spurOpened s busy).sup.up = s.sup.up ∧
      (spurOpened s busy).mgmt.last = s.mgmt.last ∧ (spurOpened s busy).mgmt.commit = s.mgmt.commit := by
  cases busy <;> exact ⟨rfl, rfl, rfl, rfl, rfl, rfl, rfl, rfl, rfl⟩

/-- R105: the part once its spur has become OPEN, the receiver not yet told. -/
def spurOpenedUntold (s : State) : State :=
  { s with due := s.due.erase .spurWatchExpiry, spur := { s.spur with state := .opened, restoreCount := 0 } }

/-- R12: the dropping of the spur's frame, by what it leaves, and what it does to the lines. -/
theorem spurOpened_truncate {s : State} {busy : Bool} (hbusy : busy = decide (s.spurRx.state = .assemble)) :
    KeepsRest (spurOpened s busy) ((spurOpenedUntold s).truncate .spur) ∧ KeepsReports s ((spurOpenedUntold s).truncate .spur) ∧
      ((spurOpenedUntold s).truncate .spur).line.lines = s.line.lines ∧
      (busy = true → ((spurOpenedUntold s).truncate .spur).sup.latches ≠ 0#8 ∧
        ∃ ls, LinesMoved s ((spurOpenedUntold s).truncate .spur) (edgeMove s.line) (latchEdges s) False ls) ∧
      (busy = false → (spurOpenedUntold s).truncate .spur = spurOpenedUntold s) := by
  by_cases hrx : s.spurRx.state = .assemble
  · have hcut : (spurOpenedUntold s).truncate .spur = (((spurOpenedUntold s).setRx .spur .reset).count .malformed).latch .lineError := if_pos hrx
    rw [decide_eq_true hrx] at hbusy
    rw [hcut, hbusy]
    have hrest := keepsRest_latch (((spurOpenedUntold s).setRx .spur .reset).count .malformed) .lineError
    obtain ⟨⟨ls, hmoved⟩, hlines⟩ := linesMoved_latch (((spurOpenedUntold s).setRx .spur .reset).count .malformed) .lineError
    have hkeptReports : KeepsReports s (((spurOpenedUntold s).setRx .spur .reset).count .malformed) := .of_same rfl rfl rfl rfl rfl
    have hkeptLines : KeepsLines s (((spurOpenedUntold s).setRx .spur .reset).count .malformed) := .of_same rfl rfl rfl
    refine ⟨hrest, hkeptReports.trans (keepsReports_latch _ _), hlines, fun _ => ⟨?_, ls, LinesMoved.before hmoved hkeptLines⟩, nofun⟩
    rw [hrest.latches]
    exact rawLatch_latches_ne_zero _ _
  · have hwhole : (spurOpenedUntold s).truncate .spur = spurOpenedUntold s := if_neg hrx
    rw [decide_eq_false hrx] at hbusy
    rw [hwhole, hbusy]
    exact ⟨KeepsRest.refl _, KeepsReports.of_same rfl rfl rfl rfl rfl, rfl, nofun, fun _ => rfl⟩

/-- R105, R163: the whole change to OPEN. -/
theorem spurOpens_eq {s : State} (hdue : Due.spurWatchExpiry ∈ s.due) (hclosed : s.spur.state = .closed) :
    s.takeDue .spurWatchExpiry =
      (((spurOpenedUntold s).truncate .spur).count .changes).eitherOrder (fun t => t.latch .condition) State.examineBreak :=
  (State.takeDue_of_due hdue).trans (if_pos hclosed)

/-- Settles O48: the latch of a truncated frame, and then CONDITION and the BREAK. -/
theorem spurWatchExpiryOpensTheSpur : Obligations.SpurWatchExpiryOpensTheSpur := by
  intro s busy hlow hdue hclosed hbusy
  obtain ⟨hrest, hreports, hlines, hcut, hwhole⟩ := spurOpened_truncate hbusy
  have htold := conditionTold_eitherOrder (((spurOpenedUntold s).truncate .spur).count .changes)
  rw [← spurOpens_eq hdue hclosed] at htold
  have hkept := ((hrest.count .changes).rawLatch .condition).trans htold.rest
  have hbreak := BreakTold.before htold.told (hreports.trans (keepsReports_count _ _))
  refine ⟨s.takeDue .spurWatchExpiry, answer_of_running hlow _, ?_⟩
  generalize s.takeDue .spurWatchExpiry = t at *
  have hsup := hkept.sup
  have hmoved : ∃ ls, LinesMoved s t (edgeMove s.line) (latchEdges s) False ls := by
    cases busy with
    | true =>
      obtain ⟨hlatches, ls, hmoved⟩ := hcut rfl
      exact ⟨ls, LinesMoved.after hmoved ((keepsLines_count _ _).trans (htold.calm hlatches))⟩
    | false =>
      obtain ⟨ls, hmoved⟩ := htold.moved
      rw [hwhole rfl] at hmoved
      have hkeptLines : KeepsLines s ((spurOpenedUntold s).count .changes) := .of_same rfl rfl rfl
      exact ⟨ls, LinesMoved.before hmoved hkeptLines⟩
  obtain ⟨hupRx, hgap, hmap, hrun, htransit, hreturn, hup, hlast, hcommit⟩ := spurOpened_fields s busy
  refine ⟨?_, ?_, ?_, ?_, hmoved, htold.lines.trans hlines, ?_, ?_, ?_, ?_, ?_, ?_, ?_, ?_, ?_, ?_⟩
  · rw [hkept.spur]
    cases busy <;> rfl
  · rw [hkept.spurRx]
    cases busy <;> rfl
  · cases busy with
    | true => exact changeCounted_of_two (.inr ⟨rfl, rfl⟩) (by rw [hsup]; rfl)
    | false => exact changeCounted_of_one (by rw [hsup]; rfl)
  · cases busy with
    | true => exact conditionLatched_of_two (.inr ⟨rfl, rfl⟩) (by rw [hsup]; rfl)
    | false => exact conditionLatched_of_one (by rw [hsup]; rfl)
  · exact hkept.upRx.trans hupRx
  · exact hkept.gapCount.trans hgap
  · exact hkept.map.trans hmap
  · exact hkept.run.trans hrun
  · exact hkept.transit.trans htransit
  · exact hkept.spurReturn.trans hreturn
  · rw [hsup]
    exact hup
  · exact hkept.last.trans hlast
  · exact hkept.commit.trans hcommit
  · have hspur : ((spurOpenedUntold s).truncate .spur).spur.state = .opened := by
      rw [hrest.spur]
      cases busy <;> rfl
    change BreakTold s t ((spurOpenedUntold s).truncate .spur).sup.up ((spurOpenedUntold s).truncate .spur).spur.state
      ((spurOpenedUntold s).truncate .spur).map.generation at hbreak
    rw [hspur, hrest.map.trans hmap, hrest.sup] at hbreak
    change BreakTold s t (spurOpened s busy).sup.up .opened s.map.generation at hbreak
    rw [hup] at hbreak
    refine (if_congr (and_congr_right' (and_congr_right' (and_congr_right' (or_congr_right ?_)))) rfl rfl).mp hbreak
    simp [eq_comm]

end Sys2Proof.Proofs

/-! ## The change to SILENT (R12, R34, R39, R88, R156, R161, R164) -/

namespace Sys2Proof.Proofs

open Sys2Proof Sys2Proof.Machine

/-! ### What the blocks do when they are told -/

/-- R12, R34, R88: the upstream frame under assembly dropped, and the run closed, in a part whose latch set is not empty. -/
def silenced (s : State) : State :=
  if s.upRx.state = .assemble then ((({ s with upRx := .reset, gapCount := 0, run := .closed } : State).count .malformed).rawLatch .lineError)
  else { s with run := .closed }

theorem toldSilent_eq {s : State} (h : s.sup.latches ≠ 0#8) : s.toldSilent = (silenced s).swap := by
  unfold State.toldSilent silenced
  by_cases hrx : s.upRx.state = .assemble
  · rw [if_pos hrx]
    have hcut : s.truncate .upstream = (((({ s with upRx := .reset, gapCount := 0, run := .closed } : State).count .malformed).latch .lineError)) :=
      if_pos hrx
    rw [hcut, latch_of_quiet (s := State.count { s with upRx := .reset, gapCount := 0, run := .closed } .malformed) (.inr h)]
    rfl
  · rw [if_neg hrx, show s.truncate .upstream = s from if_neg hrx]
    rfl

theorem silenced_latches {s : State} (h : s.sup.latches ≠ 0#8) : (silenced s).sup.latches ≠ 0#8 := by
  unfold silenced
  split
  · exact rawLatch_latches_ne_zero _ _
  · exact h

theorem KeepsRest.silenced {s t : State} (h : KeepsRest s t) : KeepsRest (Proofs.silenced s) (Proofs.silenced t) := by
  unfold Proofs.silenced
  by_cases hrx : s.upRx.state = .assemble
  · rw [if_pos hrx, if_pos (by rwa [h.upRx])]
    have hcut : KeepsRest ({ s with upRx := .reset, gapCount := 0, run := .closed } : State)
        ({ t with upRx := .reset, gapCount := 0, run := .closed } : State) := { h with upRx := rfl, gapCount := rfl, run := rfl }
    exact (hcut.count _).rawLatch _
  · rw [if_neg hrx, if_neg (by rwa [h.upRx])]
    exact { h with run := rfl }

theorem KeepsRest.symm {s t : State} (h : KeepsRest s t) : KeepsRest t s :=
  ⟨h.resetLow.symm, h.rate.symm, h.adr.symm, h.upRx.symm, h.spurRx.symm, h.gapCount.symm, h.map.symm, h.run.symm, h.spur.symm,
    h.transit.symm, h.spurReturn.symm, h.manager0.symm, h.manager1.symm, h.last.symm, h.commit.symm, by rw [h.sup]⟩

/-- R144: an answer, by what it leaves. -/
theorem keepsRest_answered (s : State) (src : Addr) (seq c st : Digit) (d : List Digit) :
    KeepsRest { s with mgmt := { s.mgmt with last := some { src := src, seq := seq, command := c, payload := c :: st :: d } } }
      (s.answered src seq c st d) := by
  rw [answered_frame]
  exact ⟨rfl, rfl, rfl, rfl, rfl, rfl, rfl, rfl, rfl, rfl, rfl, rfl, rfl, rfl, rfl, rfl⟩

theorem KeepsRest.swap {s t : State} (h : KeepsRest s t) : KeepsRest s.swap t.swap := by
  cases hc : s.mgmt.commit with
  | none => rwa [swap_of_no_commit hc, swap_of_no_commit (h.commit.trans hc)]
  | some c =>
    obtain ⟨src, seq⟩ := c
    rw [swap_eq_answered hc, swap_eq_answered (h.commit.trans hc), h.map]
    refine (keepsRest_answered _ _ _ _ _ _).symm.trans (KeepsRest.trans ?_ (keepsRest_answered _ _ _ _ _ _))
    exact { h with map := rfl, run := rfl, last := rfl, commit := rfl }

theorem KeepsRest.toldSilent {s t : State} (h : KeepsRest s t) (hl : s.sup.latches ≠ 0#8) : KeepsRest s.toldSilent t.toldSilent := by
  rw [toldSilent_eq hl, toldSilent_eq (by rwa [h.latches])]
  exact h.silenced.swap

/-- R156: a swap leaves the lines, and what a BREAK reports. -/
theorem keeps_swap (s : State) : KeepsLines s s.swap ∧ KeepsReports s s.swap := by
  cases hc : s.mgmt.commit with
  | none => rw [swap_of_no_commit hc]; exact ⟨.refl s, .refl s⟩
  | some c =>
    rw [swap_eq_answered hc, answered_frame]
    exact ⟨.of_same rfl rfl rfl, .of_same rfl rfl rfl rfl rfl⟩

theorem keeps_silenced (s : State) : KeepsLines s (silenced s) ∧ KeepsReports s (silenced s) := by
  unfold silenced
  split <;> exact ⟨.of_same rfl rfl rfl, .of_same rfl rfl rfl rfl rfl⟩

theorem keeps_toldSilent {s : State} (h : s.sup.latches ≠ 0#8) : KeepsLines s s.toldSilent ∧ KeepsReports s s.toldSilent := by
  rw [toldSilent_eq h]
  exact ⟨(keeps_silenced s).1.trans (keeps_swap _).1, (keeps_silenced s).2.trans (keeps_swap _).2⟩

/-- What a swap leaves of the states and the latches. -/
theorem swap_sup_spur (s : State) : s.swap.sup = s.sup ∧ s.swap.spur = s.spur := by
  cases hc : s.mgmt.commit with
  | none => rw [swap_of_no_commit hc]; exact ⟨rfl, rfl⟩
  | some c => rw [swap_eq_answered hc, answered_frame]; exact ⟨rfl, rfl⟩

theorem toldSilent_sup_spur {s : State} (h : s.sup.latches ≠ 0#8) :
    s.toldSilent.sup = (silenced s).sup ∧ s.toldSilent.spur = s.spur := by
  rw [toldSilent_eq h, (swap_sup_spur _).1, (swap_sup_spur _).2]
  refine ⟨rfl, ?_⟩
  unfold silenced
  split <;> rfl

/-! ### CONDITION, the blocks told, and the BREAK, in any of the three orders -/

/-- R161: once CONDITION is set, its edge told, the blocks told and R164 examined, in an order that is left open. -/
structure SilenceTold (s t : State) (before : BitVec 8) : Prop where
  rest : KeepsRest s.toldSilent t
  moved : ∃ ls, LinesMoved s t (edgeMove s.line) (if s.adr ≠ Config.broadcast ∧ before = 0#8 then [pseudoLine] else []) False ls
  lines : t.line.lines = s.line.lines
  told : BreakTold s t s.sup.up s.spur.state s.toldSilent.map.generation
  slot : ∃ v, KeepsRest s v ∧ KeepsMap v.toldSilent t

section
variable {s : State}

/-- Being told changes neither of the states that a BREAK reports. -/
theorem toldSilent_states (h : s.sup.latches ≠ 0#8) : s.toldSilent.sup.up = s.sup.up ∧ s.toldSilent.spur = s.spur := by
  obtain ⟨hsup, hspur⟩ := toldSilent_sup_spur h
  refine ⟨?_, hspur⟩
  rw [hsup]
  unfold silenced
  split <;> rfl

/-- The BREAK that is examined once the blocks have been told. -/
theorem breakTold_of_toldSilent {t u : State} (h : s.sup.latches ≠ 0#8) (hrest : KeepsRest s.toldSilent t) (hreports : KeepsReports s t)
    (hu : BreakTold t u t.sup.up t.spur.state t.map.generation) :
    BreakTold s u s.sup.up s.spur.state s.toldSilent.map.generation := by
  have htold := BreakTold.before hu hreports
  rw [hrest.map, hrest.spur, hrest.sup] at htold
  change BreakTold s u s.toldSilent.sup.up s.toldSilent.spur.state s.toldSilent.map.generation at htold
  rwa [(toldSilent_states h).1, (toldSilent_states h).2] at htold

theorem toldSilent_latches (h : s.sup.latches ≠ 0#8) : s.toldSilent.sup.latches ≠ 0#8 := by
  rw [(toldSilent_sup_spur h).1]
  exact silenced_latches h

theorem silenceTold_edge_first (h : s.sup.latches ≠ 0#8) (before : BitVec 8) :
    SilenceTold s ((s.tellEdge before).toldSilent).examineBreak before := by
  have hedge := keepsRest_tellEdge s before
  have hrest := hedge.toldSilent h
  obtain ⟨hlines, hreports⟩ := keeps_toldSilent (s := s.tellEdge before) (by rwa [hedge.latches])
  obtain ⟨ls, hmoved, -, hkept⟩ := linesMoved_tellEdge h before
  have hcalm := hlines.trans (keepsLines_examineBreak (s.tellEdge before).toldSilent)
  exact ⟨hrest.trans (keepsRest_examineBreak _), ⟨ls, LinesMoved.after hmoved hcalm⟩, by rw [hcalm.line, hkept],
    breakTold_of_toldSilent h hrest ((keepsReports_tellEdge h before).trans hreports) (breakTold_examineBreak _), _, hedge,
    keepsMap_examineBreak _⟩

theorem silenceTold_edge_second (h : s.sup.latches ≠ 0#8) (before : BitVec 8) :
    SilenceTold s ((s.toldSilent).tellEdge before).examineBreak before := by
  have hedge := keepsRest_tellEdge s.toldSilent before
  obtain ⟨hlines, hreports⟩ := keeps_toldSilent h
  obtain ⟨ls, hmoved, -, hkept⟩ := linesMoved_tellEdge (toldSilent_latches h) before
  have hcalm := keepsLines_examineBreak (s.toldSilent.tellEdge before)
  rw [hlines.line, hlines.adr] at hmoved
  exact ⟨hedge.trans (keepsRest_examineBreak _), ⟨ls, LinesMoved.after (LinesMoved.before hmoved hlines) hcalm⟩,
    by rw [hcalm.line, hkept, hlines.line],
    breakTold_of_toldSilent h hedge (hreports.trans (keepsReports_tellEdge (toldSilent_latches h) before)) (breakTold_examineBreak _), _,
    KeepsRest.refl s, (keepsMap_tellEdge _ _).trans (keepsMap_examineBreak _)⟩

theorem silenceTold_edge_last (h : s.sup.latches ≠ 0#8) (before : BitVec 8) :
    SilenceTold s ((s.toldSilent).examineBreak.tellEdge before) before := by
  have hbreak := keepsRest_examineBreak s.toldSilent
  obtain ⟨hlines, hreports⟩ := keeps_toldSilent h
  have hcalm := hlines.trans (keepsLines_examineBreak s.toldSilent)
  have hlatches : s.toldSilent.examineBreak.sup.latches ≠ 0#8 := by
    rw [hbreak.latches]
    exact toldSilent_latches h
  obtain ⟨ls, hmoved, -, hkept⟩ := linesMoved_tellEdge hlatches before
  rw [hcalm.line, hcalm.adr] at hmoved
  exact ⟨hbreak.trans (keepsRest_tellEdge _ _), ⟨ls, LinesMoved.before hmoved hcalm⟩, by rw [hkept, hcalm.line],
    BreakTold.after (breakTold_of_toldSilent h (KeepsRest.refl _) hreports (breakTold_examineBreak _)) (keepsReports_tellEdge hlatches before), _,
    KeepsRest.refl s, (keepsMap_examineBreak _).trans (keepsMap_tellEdge _ _)⟩

end

/-- R161: the part once CONDITION is set, its blocks not yet told. -/
def silentUntold (s : State) (choices : Nat) : State :=
  (State.count { s with
    due := s.due.erase .upstreamSilence, sup := { s.sup with up := .silent, restoreCount := 0 }, choices := choices } .changes).rawLatch .condition

/-- R161: the whole change to SILENT. -/
theorem becomeSilent_told {s : State} (hdue : Due.upstreamSilence ∈ s.due) (hlive : s.sup.up = .live) :
    ∃ choices, SilenceTold (silentUntold s choices) (s.takeDue .upstreamSilence) s.sup.latches := by
  have htaken : s.takeDue .upstreamSilence = (s.setDue (s.due.erase .upstreamSilence)).becomeSilent := State.takeDue_of_due hdue
  rw [htaken, State.becomeSilent, if_pos (by exact hlive)]
  dsimp only
  split
  · split
    · exact ⟨s.choices + 1, silenceTold_edge_first (rawLatch_latches_ne_zero _ _) _⟩
    · exact ⟨s.choices + 1, silenceTold_edge_second (rawLatch_latches_ne_zero _ _) _⟩
    · exact ⟨s.choices + 1, silenceTold_edge_last (rawLatch_latches_ne_zero _ _) _⟩
  · exact ⟨s.choices, silenceTold_edge_first (rawLatch_latches_ne_zero _ _) _⟩

/-- R156: a swap, by what it leaves. -/
theorem keepsRest_of_swap (s : State) : KeepsRest { s with map := s.swap.map, run := s.swap.run, mgmt := s.swap.mgmt } s.swap := by
  cases hc : s.mgmt.commit with
  | none => rw [swap_of_no_commit hc]; exact .refl s
  | some c =>
    rw [swap_eq_answered hc, answered_frame]
    exact ⟨rfl, rfl, rfl, rfl, rfl, rfl, rfl, rfl, rfl, rfl, rfl, rfl, rfl, rfl, rfl, rfl⟩

theorem swap_run {s : State} (h : s.run = .closed) : s.swap.run = .closed := by
  cases hc : s.mgmt.commit with
  | none => rwa [swap_of_no_commit hc]
  | some c => rw [swap_eq_answered hc, answered_frame]

theorem swap_managers (s : State) : s.swap.mgmt.manager0 = s.mgmt.manager0 ∧ s.swap.mgmt.manager1 = s.mgmt.manager1 := by
  cases hc : s.mgmt.commit with
  | none => rw [swap_of_no_commit hc]; exact ⟨rfl, rfl⟩
  | some c => rw [swap_eq_answered hc, answered_frame]; exact ⟨rfl, rfl⟩

/-- R144, R156: the reply of an answer waits, or has been granted. -/
theorem answered_reply (s : State) (src : Addr) (seq c st : Digit) (d : List Digit) :
    (s.answered src seq c st d).mgmt.reply = .full (replyDigits s src seq (c :: st :: d)) ∨
      (s.answered src seq c st d).mgmt.reply = .sending (replyDigits s src seq (c :: st :: d)) := by
  unfold State.answered State.replied
  split
  · exact .inr rfl
  · exact .inl rfl

theorem KeepsMap.reply_stays {s t : State} (h : KeepsMap s t) {ds : List Digit} (hr : s.mgmt.reply = .full ds ∨ s.mgmt.reply = .sending ds) :
    t.mgmt.reply = .full ds ∨ t.mgmt.reply = .sending ds := by
  rcases h.slot with ⟨hsame, -⟩ | ⟨ds', hfull, hsending, -⟩
  · rwa [hsame]
  · rw [hfull] at hr
    rcases hr with hr | hr
    · exact .inr (by rw [hsending, ReplySlot.full.inj hr])
    · cases hr

/-- R12, R34, R161: what the change to SILENT has done before the swap. -/
theorem silenced_fields {s x : State} {busy : Bool} {c : Nat} (hbusy : busy = decide (s.upRx.state = .assemble))
    (hx : x = silenced (silentUntold s c)) :
    (if busy then x.upRx = .reset ∧ x.gapCount = 0 else x.upRx = s.upRx ∧ x.gapCount = s.gapCount) ∧ changeCounted s x busy ∧
      conditionLatched s x busy ∧
      { s with upRx := x.upRx, gapCount := x.gapCount, run := .closed, due := x.due, choices := c, sup := { s.sup with
        up := .silent, restoreCount := 0, counters := x.sup.counters, latches := x.sup.latches } } = x := by
  by_cases hrx : s.upRx.state = .assemble
  · rw [decide_eq_true hrx] at hbusy
    have hcut : x = _ := hx.trans (if_pos hrx)
    rw [hbusy, hcut]
    exact ⟨⟨rfl, rfl⟩, changeCounted_of_two (.inl ⟨rfl, rfl⟩) rfl, conditionLatched_of_two (.inl ⟨rfl, rfl⟩) rfl, rfl⟩
  · rw [decide_eq_false hrx] at hbusy
    have hwhole : x = _ := hx.trans (if_neg hrx)
    rw [hbusy, hwhole]
    exact ⟨⟨rfl, rfl⟩, changeCounted_of_one rfl, conditionLatched_of_one rfl, rfl⟩

theorem replyDigits_of_adr {s t : State} (src : Addr) (seq : Digit) (payload : List Digit) (h : t.adr = s.adr) :
    replyDigits t src seq payload = replyDigits s src seq payload := by
  unfold replyDigits
  rw [h]

/-- Settles O47: what is told in each order, and what the swap answers. -/
theorem upstreamSilenceTruncatesClosesAndSwaps : Obligations.UpstreamSilenceTruncatesClosesAndSwaps := by
  intro s busy hlow hdue hlive hbusy
  obtain ⟨c, htold⟩ := becomeSilent_told hdue hlive
  refine ⟨s.takeDue .upstreamSilence, answer_of_running hlow _, ?_⟩
  generalize s.takeDue .upstreamSilence = t at *
  have hlatches : (silentUntold s c).sup.latches ≠ 0#8 := rawLatch_latches_ne_zero _ _
  obtain ⟨x, hx⟩ : ∃ x, x = silenced (silentUntold s c) := ⟨_, rfl⟩
  obtain ⟨hcut, hcounted, hlatched, hfields⟩ := silenced_fields hbusy hx
  have hrest := htold.rest
  rw [toldSilent_eq hlatches, ← hx] at hrest
  have hkept := (keepsRest_of_swap x).trans hrest
  have hsup := hkept.sup
  obtain ⟨ls, hmoved⟩ := htold.moved
  have hkeptLines : KeepsLines s (silentUntold s c) := .of_same rfl rfl rfl
  have hkeptReports : KeepsReports s (silentUntold s c) := .of_same rfl rfl rfl rfl rfl
  have hbreak := BreakTold.before htold.told hkeptReports
  have hmap : x.map = s.map := by rw [← hfields]
  have hmgmt : x.mgmt = s.mgmt := by rw [← hfields]
  have hadr : x.adr = s.adr := by rw [← hfields]
  refine ⟨?_, ?_, ?_, ?_, ?_, ?_, ?_, ⟨ls, LinesMoved.before hmoved hkeptLines⟩, htold.lines, ?_, fun src seq payload hcommit hpayload => ?_,
    ?_, ?_, ?_, ?_, ?_, ?_, ?_, ?_, ?_, ?_⟩
  · rw [hsup, ← hfields]
  · rw [hsup, ← hfields]
  · rw [hsup, ← hfields]
  · exact hkept.run.trans (swap_run (by rw [← hfields]))
  · rw [hkept.upRx, hkept.gapCount]
    exact hcut
  · intro k
    rw [countOf_of_counters (congrArg Supervision.counters hsup)]
    exact hcounted k
  · intro l
    rw [isSet_of_latches (congrArg Supervision.latches hsup)]
    exact hlatched l
  · rw [hkept.map, hkept.last]
    split
    next hnone =>
      rw [swap_of_no_commit (by rw [hmgmt, hnone]), hmap, hmgmt]
      exact ⟨rfl, rfl⟩
    next hsome =>
      obtain ⟨⟨src, seq⟩, hcommit⟩ := Option.ne_none_iff_exists'.mp hsome
      rw [swap_eq_answered (by rw [hmgmt, hcommit]), answered_frame, ← hmap]
      exact exchange_spec x.map
  · have hswap := swap_eq_answered (s := x) (by rw [hmgmt, hcommit])
    refine ⟨?_, ?_, ?_⟩
    · rw [hkept.commit, hswap, State.answered_commit]
    · rw [hkept.last, hswap, answered_frame, hpayload, hmap]
    · obtain ⟨v, hv, hslot⟩ := htold.slot
      have hsilenced := hv.silenced
      rw [← hx] at hsilenced
      rw [toldSilent_eq (by rwa [hv.latches]), swap_eq_answered (hsilenced.commit.trans (by rw [hmgmt, hcommit]))] at hslot
      have hreply := hslot.reply_stays (answered_reply _ _ _ _ _ _)
      rw [hsilenced.map, hmap] at hreply
      have hdigits := fun p => replyDigits_of_adr src seq p (hsilenced.adr.trans hadr)
      rw [← hdigits, hpayload]
      exact hreply
  · rw [hkept.transit, ← hfields]
  · rw [hkept.spurReturn, ← hfields]
  · rw [hkept.spur, ← hfields]
  · rw [hkept.spurRx, ← hfields]
  · rw [hkept.manager0, (swap_managers x).1, hmgmt]
  · rw [hkept.manager1, (swap_managers x).2, hmgmt]
  · rw [hsup, ← hfields]
  · rw [hsup, ← hfields]
  · rw [hsup, ← hfields]
  · rw [← htold.rest.map] at hbreak
    refine (if_congr (and_congr_right' (and_congr_right' (and_congr_right' (or_congr_left ?_)))) rfl rfl).mp hbreak
    exact ne_comm

end Sys2Proof.Proofs

/-! ## SET SPUR, enable 0h (R59, R108, R125, R126, R132, R152) -/

namespace Sys2Proof.Proofs

open Sys2Proof Sys2Proof.Machine

/-- R59: the disable check answers the lowest address, own address skipped, whose entry uses the spur. -/
theorem firstSpurUse_eq_some_iff (b : Bank) (own : Addr) (r : Digit) (a : Addr) :
    b.firstSpurUse own = some (r, a) ↔
      a ≠ own ∧ (b.entry a).usesSpur = true ∧ r = 2#4 ∧ ∀ c, c < a → c ≠ own → (b.entry c).usesSpur = false := by
  have hsearch : b.firstSpurUse own =
      (examined own).findSome? fun c => (if (b.entry c).usesSpur then some 2#4 else none).map fun x => (x, c) := by
    unfold Bank.firstSpurUse
    congr 1
    funext c
    split <;> rfl
  rw [hsearch, findSome_pair_eq_some_iff (examined_ascending own)]
  simp only [mem_examined]
  refine and_congr_right' ?_
  by_cases huse : (b.entry a).usesSpur = true
  · simp only [huse, if_true, Option.some.injEq, true_and]
    refine and_congr eq_comm (forall_congr' fun c => Imp.swap.trans (imp_congr_right fun _ => imp_congr_right fun _ => ?_))
    simp
  · simp [huse]

/-- R125, R126, in report mode POLL: discards move the lines, and do nothing else. -/
theorem discardReports_of_poll {s : State} (h : s.line.reportMode = .poll) (lost : List Held) :
    s.discardReports lost = { s with line := (s.discardReports lost).line } := by
  unfold State.discardReports
  rw [State.moveLines_of_poll keepsMode_discard _ _ h]
  rfl

/-- R95: frames without a report tag name no line. -/
theorem discardReports_of_untagged {lost : List Held} (h : ∀ x ∈ lost, ∀ ls, x.tag ≠ .report ls) (s : State) :
    s.discardReports lost = s := by
  have hnone : reportGroups lost = [] := by
    refine List.filterMap_eq_nil_iff.mpr fun x hx => ?_
    cases htag : x.tag with
    | report ls => exact absurd htag (h x hx ls)
    | none => rfl
    | condition c => rfl
  rw [State.discardReports, hnone, State.moveLines, if_neg (by simp)]
  rfl

/-- R127: the lines that the spur's queue reports are REPORTING, and none is named twice. -/
theorem reporting_of_spurQueue {s : State} (h : ReportingLaw s) :
    (taggedLines s.spur.queue).Nodup ∧ ∀ l ∈ taggedLines s.spur.queue, (s.line.catchOf l).state = .reporting := by
  obtain ⟨hnodup, hreporting, -⟩ := h
  exact ⟨(List.nodup_append.mp hnodup).2.1, fun l hl => (hreporting l).mpr (List.mem_append_right _ hl)⟩

/-- R108: what hearing the frame has changed of the spur, the disable sets anew. -/
theorem spurOff_heard (s : State) (p : Port) (watch : Digit) :
    spurOff (s.heard p) watch = { s.heard p with
      spur := { s.spur with
        state := .disabled, watchTime := watch, watchCount := 0, restoreCount := 0, queue := [], tx := s.spur.tx.abort }
      spurRx := .reset
      sup := { (s.heard p).sup with lastSpur := .disabled }
      merge := { s.merge with spurReturn := [], tx := s.merge.tx.abortFrom .spurReturn } } := by
  cases p <;> rfl

/-- Settles O39: the disable check, and what the disable discards. -/
theorem setSpurDisableDiscardsOrIsRefused : Obligations.SetSpurDisableDiscardsOrIsRefused := by
  intro s q watch h hwatch
  have hanswered (u : State) (status : Digit) (data : List Digit)
      (hu : (s.heard q.port).doSetSpur ⟨0x8#4, s.adr, q.src, q.seq, [0xD#4, 0#4, watch]⟩ false watch =
        u.answerWith ⟨0x8#4, s.adr, q.src, q.seq, [0xD#4, 0#4, watch]⟩ status data) (hcommit : u.mgmt.commit = none) :=
    exec_answered (c := .setSpurDisable q watch) h rfl (by simp) (parse_setSpur false hwatch) hu hcommit
  have hactive : (s.heard q.port).map.activeBank.firstSpurUse (s.heard q.port).adr = s.map.activeBank.firstSpurUse s.adr := by
    rw [State.heard_map, State.heard_adr]
  refine ⟨fun hdisabled => ?_, fun a henabled hown huse hfirst => ?_, fun henabled hunused u hu => ?_⟩
  · rw [← State.heard_spur_state s q.port] at hdisabled
    refine hanswered _ 0#4 [] ?_ (commit_of_manages h)
    unfold State.doSetSpur State.disableSpur
    rw [if_pos hdisabled, if_pos hdisabled]
    rfl
  · have hfound : s.map.activeBank.firstSpurUse s.adr = some (2#4, a) :=
      (firstSpurUse_eq_some_iff _ _ _ _).mpr ⟨hown, (usesSpur_iff _).mpr huse, rfl,
        fun c hc hne => Bool.eq_false_iff.mpr fun hb => hfirst c hc hne ((usesSpur_iff _).mp hb)⟩
    refine hanswered _ 4#4 [2#4, rowOf a, colOf a] ?_ (commit_of_manages h)
    unfold State.doSetSpur
    rw [if_neg Bool.false_ne_true, if_neg (by rwa [State.heard_spur_state]), hactive, hfound]
    rfl
  · have hnone : s.map.activeBank.firstSpurUse s.adr = none :=
      (firstSpurUse_eq_none_iff _ _).mpr fun a ha => Bool.eq_false_iff.mpr fun hb => hunused a ha ((usesSpur_iff _).mp hb)
    rw [← spurOff_heard] at hu
    have hqueue : (s.heard q.port).spur.queue = s.spur.queue := by cases q.port <;> rfl
    have hline : u.line = s.line := by rw [hu]; exact State.heard_line s q.port
    have hdisable : (s.heard q.port).disableSpur watch = u.discardReports s.spur.queue := by
      rw [disableSpur_eq, if_neg (by rwa [State.heard_spur_state]), hqueue, hu]
    have heffect : EventEffect u (u.discardReports s.spur.queue) := eventEffect_moveLines _ _ _
    have hcommit : (u.discardReports s.spur.queue).mgmt.commit = none := by
      rw [(keepsRest_of_eventEffect heffect).commit, hu]
      exact commit_of_manages h
    have hexec := hanswered (u.discardReports s.spur.queue) 0#4 [] (by
      unfold State.doSetSpur
      rw [if_neg Bool.false_ne_true, if_neg (by rwa [State.heard_spur_state]), hactive, hnone, hdisable]
      rfl) hcommit
    by_cases hlaw : ReportingLaw s
    · obtain ⟨hnodup, hreporting⟩ := reporting_of_spurQueue hlaw
      obtain ⟨ls, hmoved⟩ := linesMoved_discards u hnodup (by rwa [hline])
      exact ⟨_, ls, hexec, heffect, fun _ => hmoved, fun hpoll => discardReports_of_poll (by rw [hline, hpoll]) _,
        fun huntagged => discardReports_of_untagged huntagged _⟩
    · exact ⟨_, [], hexec, heffect, fun hl => absurd hl hlaw, fun hpoll => discardReports_of_poll (by rw [hline, hpoll]) _,
        fun huntagged => discardReports_of_untagged huntagged _⟩

end Sys2Proof.Proofs

/-! ## SET REPORTING (R131, R132, R151, R164) -/

namespace Sys2Proof.Proofs

open Sys2Proof Sys2Proof.Machine

/-! ### An EVENT and a BREAK examined in either order -/

/-- R132: the line unit of `t` is as the examination for an EVENT in `s` leaves it, and the EVENT built is in the insertion queue. -/
def EventExamined (s t : State) : Prop :=
  t.line = s.examineEvent.line ∧ (s.eventDue = true → s.eventHeld ∈ t.merge.insertion)

theorem eventExamined_examineEvent (s : State) : EventExamined s s.examineEvent := by
  refine ⟨rfl, fun h => ?_⟩
  rw [State.examineEvent, if_pos h, State.buildEvent, insert_frame]
  exact List.mem_append_right _ (List.mem_singleton.mpr rfl)

theorem EventExamined.after {s t u : State} (h : EventExamined s t) (k : KeepsLines t u) : EventExamined s u :=
  ⟨k.line.trans h.1, fun hdue => k.queue _ (h.2 hdue)⟩

theorem eventDue_congr {s t : State} (k : KeepsLines s t) : t.eventDue = s.eventDue := by
  unfold State.eventDue State.addressed
  rw [k.line, k.adr, k.inserted]

theorem eventHeld_congr {s t : State} (k : KeepsLines s t) : t.eventHeld = s.eventHeld := by
  unfold State.eventHeld
  rw [k.line, k.adr]

theorem examineEvent_line (s : State) : s.examineEvent.line =
    if s.eventDue then { s.line.record s.line.eventLines with eventSeq := s.line.eventSeq + 1#4 } else s.line := by
  unfold State.examineEvent
  split
  · rw [State.buildEvent, State.insert_line]
    rfl
  · rfl

theorem EventExamined.before {s t u : State} (h : EventExamined t u) (k : KeepsLines s t) : EventExamined s u := by
  obtain ⟨hline, hqueue⟩ := h
  rw [examineEvent_line, eventDue_congr k, k.line] at hline
  rw [eventDue_congr k, eventHeld_congr k] at hqueue
  exact ⟨hline.trans (examineEvent_line s).symm, hqueue⟩

theorem keepsReports_examineEvent (s : State) : KeepsReports s s.examineEvent := by
  obtain ⟨hinserted, hqueue⟩ := keepsBreaks_examineEvent s
  have hrest := keepsRest_of_eventEffect (eventEffect_examineEvent s)
  have hsup : s.examineEvent.sup = s.sup := by
    unfold State.examineEvent
    split
    · exact State.insert_sup _ _
    · rfl
  refine ⟨hrest.adr, ?_, hinserted, by rw [hsup], by rw [hsup], hqueue⟩
  rw [examineEvent_line]
  split
  · exact record_reportAddr _ _
  · rfl

/-- R132, R164: the part has been examined for an EVENT, and for a BREAK where that is asked. -/
structure ReportsExamined (s t : State) (asked : Prop) : Prop where
  rest : KeepsRest s t
  event : EventExamined s t
  told : asked → BreakTold s t s.sup.up s.spur.state s.map.generation
  calm : ¬asked → KeepsReports s t

theorem ReportsExamined.of_consume {s t : State} {asked : Prop} (h : ReportsExamined s.consume t asked) : ReportsExamined s t asked := by
  have hrest : KeepsRest s s.consume := ⟨rfl, rfl, rfl, rfl, rfl, rfl, rfl, rfl, rfl, rfl, rfl, rfl, rfl, rfl, rfl, rfl⟩
  have hlines : KeepsLines s s.consume := .of_same rfl rfl rfl
  have hreports : KeepsReports s s.consume := .of_same rfl rfl rfl rfl rfl
  exact ⟨hrest.trans h.rest, h.event.before hlines, fun ha => (h.told ha).before hreports, fun ha => hreports.trans (h.calm ha)⟩

/-- The examination for a BREAK, where it is asked. -/
def examineIf (asked : Prop) [Decidable asked] (s : State) : State := if asked then s.examineBreak else s

section
variable (asked : Prop) [Decidable asked] (s : State)

theorem keeps_examineIf : KeepsRest s (examineIf asked s) ∧ KeepsLines s (examineIf asked s) := by
  unfold examineIf
  split
  · exact ⟨keepsRest_examineBreak s, keepsLines_examineBreak s⟩
  · exact ⟨.refl s, .refl s⟩

theorem reportsExamined_event_first : ReportsExamined s (examineIf asked s.examineEvent) asked := by
  obtain ⟨hrest, hlines⟩ := keeps_examineIf asked s.examineEvent
  have hevent := keepsRest_of_eventEffect (eventEffect_examineEvent s)
  refine ⟨hevent.trans hrest, (eventExamined_examineEvent s).after hlines, fun ha => ?_, fun ha => ?_⟩
  · have htold := (breakTold_examineBreak s.examineEvent).before (keepsReports_examineEvent s)
    rw [hevent.sup, hevent.spur, hevent.map] at htold
    rw [examineIf, if_pos ha]
    exact htold
  · rw [examineIf, if_neg ha]
    exact keepsReports_examineEvent s

theorem reportsExamined_break_first : ReportsExamined s (examineIf asked s).examineEvent asked := by
  obtain ⟨hrest, hlines⟩ := keeps_examineIf asked s
  refine ⟨hrest.trans (keepsRest_of_eventEffect (eventEffect_examineEvent _)), (eventExamined_examineEvent _).before hlines,
    fun ha => ?_, fun ha => ?_⟩
  · rw [examineIf, if_pos ha]
    exact (breakTold_examineBreak s).after (keepsReports_examineEvent _)
  · rw [examineIf, if_neg ha]
    exact keepsReports_examineEvent s

theorem reportsExamined_eitherOrder : ReportsExamined s (s.eitherOrder State.examineEvent (examineIf asked)) asked := by
  unfold State.eitherOrder
  split
  · split
    · exact (reportsExamined_event_first asked _).of_consume
    · exact (reportsExamined_break_first asked _).of_consume
  · exact reportsExamined_event_first asked s

end

/-! ### SET REPORTING -/

/-- R151: the report settings of SET REPORTING. -/
def reportingSet (s : State) (mode : ReportMode) (a : Addr) (code : BitVec 2) : State :=
  s.setLines { s.line with reportMode := mode, reportAddr := a, sampleCode := code }

/-- R131, R132, R164: in report mode POLL no EVENT is built, whether or not one is examined. -/
theorem setReporting_examined (s : State) (mode : ReportMode) (a : Addr) (code : BitVec 2) :
    ReportsExamined (reportingSet s mode a code) (s.setReporting mode a code) (a ≠ s.line.reportAddr) := by
  cases mode with
  | event =>
    exact reportsExamined_eitherOrder (a ≠ s.line.reportAddr) (reportingSet s .event a code)
  | poll =>
    have hpoll (u : State) (h : u.line.reportMode = .poll) : u.examineEvent = u := State.examineEvent_of_poll h
    have hset : s.setReporting .poll a code = examineIf (a ≠ s.line.reportAddr) (reportingSet s .poll a code).examineEvent := by
      rw [State.examineEvent_of_poll rfl]
      unfold State.setReporting State.eitherOrder
      dsimp only
      rw [if_neg (by nofun)]
      by_cases ha : a ≠ s.line.reportAddr
      · simp only [ha, examineIf, reportingSet, decide_true, Bool.or_true, ne_eq, not_false_eq_true, if_true]
        exact congrArg State.examineBreak (State.examineEvent_of_poll rfl)
      · simp [ha, examineIf, reportingSet]
    rw [hset]
    exact reportsExamined_event_first _ _

theorem parse_setReporting {own : Addr} {mode row col code : Digit} (hmode : mode.toNat ≤ 1) (hrow : row.toNat ≤ 7)
    (hown : addrOf row col ≠ own) (hbroadcast : addrOf row col ≠ Config.broadcast) (hcode : code.toNat ≤ 3) :
    parseCommand own 0xC#4 [mode, row, col, code] =
      .command (.setReporting (if mode = 1#4 then .event else .poll) (addrOf row col) (code.setWidth 2)) :=
  unless_of_false (by simp [digit_lt_iff, hmode, (badRow_eq_false_iff row).mpr hrow, hown, hbroadcast, hcode]) _

/-- R123, R132: the records of the lines that an EVENT takes. -/
theorem catchOf_eventBuilt {s : State} (h : s.eventDue = true) (l : Fin 13) : s.examineEvent.line.catchOf l =
    if l ∈ s.line.eventLines then { state := .reporting, c := (s.line.catchOf l).c, n := 0#4 } else s.line.catchOf l := by
  rw [examineEvent_line, if_pos h]
  exact LineBlock.catchOf_record _ _ _

theorem adr_ne_broadcast_of_manages {s : State} {q : Requester} (h : s.Manages q) : s.adr ≠ Config.broadcast := by
  obtain ⟨⟨-, -, hhas, -⟩, -⟩ := h
  exact hhas

theorem unreported_iff (s : State) :
    s.unreported = true ↔ s.sup.up ≠ s.sup.lastUp ∨ s.spur.state ≠ .disabled ∧ s.spur.state ≠ s.sup.lastSpur := by
  simp [State.unreported]

/-- Settles O37: the settings, and the two examinations that they may cause. -/
theorem setReportingSetsAndReports : Obligations.SetReportingSetsAndReports := by
  intro s q mode row col code ls h hmode hrow hown hbroadcast hcode hls
  have hhas := adr_ne_broadcast_of_manages h
  have hexec := exec_answered (c := .setReporting q mode row col code) (status := 0#4) (data := []) h rfl (by simp)
    (parse_setReporting hmode hrow hown hbroadcast hcode) (u := (s.heard q.port).setReporting (if mode = 1#4 then .event else .poll)
      (addrOf row col) (code.setWidth 2)) rfl
  have hexamined := setReporting_examined (s.heard q.port) (if mode = 1#4 then .event else .poll) (addrOf row col) (code.setWidth 2)
  generalize (s.heard q.port).setReporting (if mode = 1#4 then .event else .poll) (addrOf row col) (code.setWidth 2) = v at *
  obtain ⟨w, hw⟩ : ∃ w, w = reportingSet (s.heard q.port) (if mode = 1#4 then .event else .poll) (addrOf row col) (code.setWidth 2) := ⟨_, rfl⟩
  rw [← hw, State.heard_line] at hexamined
  obtain ⟨hrest, ⟨hline, hqueue⟩, htold, hcalm⟩ := hexamined
  have hwline : w.line = { s.line with
      reportMode := if mode = 1#4 then .event else .poll, reportAddr := addrOf row col, sampleCode := code.setWidth 2 } := by
    rw [hw, ← State.heard_line s q.port]
    rfl
  have hwadr : w.adr = s.adr := by rw [hw]; exact State.heard_adr s q.port
  have hvline : v.line = { w.line with catches := v.line.catches, eventSeq := v.line.eventSeq } := by
    rw [hline, examineEvent_line]
    split
    · rw [record_eq]
    · rfl
  have hlast := answered_frame v q.src q.seq 0xC#4 0#4 []
  have hreply := answered_reply v q.src q.seq 0xC#4 0#4 []
  rw [replyDigits_of_adr _ _ _ (hrest.adr.trans (hwadr))] at hreply
  refine ⟨_, hexec (hrest.commit.trans (by rw [hw]; exact commit_of_manages h)), ?_⟩
  generalize v.answered q.src q.seq 0xC#4 0#4 [] = t at *
  have htline : t.line = v.line := by rw [hlast]
  have htinserted (k : Kind) : t.inserted k = v.inserted k := by rw [hlast]; rfl
  have htqueue : t.merge.insertion = v.merge.insertion := by rw [hlast]
  have htsup : t.sup = v.sup := by rw [hlast]
  have hwinserted (k : Kind) : w.inserted k = s.inserted k := by
    rw [hw, State.inserted, State.inserted, ← State.heard_merge s q.port]
    rfl
  have hwreports : w.sup.up = s.sup.up ∧ w.sup.lastUp = s.sup.lastUp ∧ w.sup.lastSpur = s.sup.lastSpur ∧ w.spur.state = s.spur.state := by
    rw [hw]
    exact ⟨by cases q.port <;> rfl, by cases q.port <;> rfl, by cases q.port <;> rfl, State.heard_spur_state s q.port⟩
  obtain ⟨hup, hlastUp, hlastSpur, hspur⟩ := hwreports
  rw [htline, htsup, htqueue, htinserted]
  refine ⟨?_, ?_, ?_, ?_, ?_, ?_, hreply, ?_, ?_, ?_, ?_, ?_, ?_, ?_, ?_, ?_, ?_, ?_, ?_, ?_, ?_, fun hpoll => ?_, fun hevent hfree hcaught => ?_,
    fun hchanged hfree hunreported => ?_, fun hsame => ?_⟩
  · rw [hvline, hwline]
  · rw [hvline, hwline]
  · rw [hvline, hwline]
    simp only [BitVec.toNat_setWidth]
    omega
  · rw [hvline, hwline]
  · rw [hvline, hwline]
  · rw [hlast]
  · rw [hlast]
    exact hrest.manager0.trans (by rw [hw]; exact congrArg Management.manager0 (State.heard_mgmt s q.port))
  · rw [hlast]
    exact hrest.manager1.trans (by rw [hw]; exact congrArg Management.manager1 (State.heard_mgmt s q.port))
  · rw [hlast]
    exact hrest.commit.trans (by rw [hw]; exact commit_of_manages h)
  · rw [hlast]
    exact hrest.map.trans (by rw [hw]; exact State.heard_map s q.port)
  · rw [hlast]
    exact hrest.run.trans (by rw [hw]; rfl)
  · rw [hlast]
    exact hrest.spur.trans (by rw [hw]; rfl)
  · rw [hlast]
    exact hrest.upRx.trans (by rw [hw]; rfl)
  · rw [hlast]
    exact hrest.spurRx.trans (by rw [hw]; rfl)
  · rw [hlast]
    exact hrest.gapCount.trans (by rw [hw]; rfl)
  · rw [hlast]
    refine hrest.transit.trans ?_
    rw [hw, ← State.heard_merge s q.port]
    rfl
  · rw [hlast]
    refine hrest.spurReturn.trans ?_
    rw [hw, ← State.heard_merge s q.port]
    rfl
  · exact hrest.sup.trans (by rw [hw]; rfl)
  · rw [hlast]
    exact hrest.rate.trans (by rw [hw]; exact State.heard_rate s q.port)
  · rw [hlast]
    exact hrest.adr.trans hwadr
  · have hmode : w.line.reportMode = .poll := by rw [hwline, hpoll]; rfl
    rw [hline, State.examineEvent_of_poll hmode, hwline]
    exact ⟨rfl, rfl⟩
  · have hmode : w.line.reportMode = .event := by rw [hwline, hevent]; rfl
    have hlines : w.line.caughtLines = ls := by rw [hls, hwline]; rfl
    have htaken : w.line.eventLines = ls.take 7 := by rw [LineBlock.eventLines, hlines]
    have hreportAddr : w.line.reportAddr = addrOf row col := by rw [hwline]
    have hdue : w.eventDue = true := by
      simp [State.eventDue, State.addressed, hmode, hwadr, hwinserted, hfree, hlines, hcaught, hhas, hreportAddr, hown]
    refine ⟨?_, fun l => ?_, w.eventHeld, hqueue hdue, ?_, ?_⟩
    · rw [hline, examineEvent_line, if_pos hdue, hwline]
    · rw [hline, catchOf_eventBuilt hdue, htaken, hwline]
      rfl
    · rw [State.eventHeld, htaken]
    · rw [State.eventHeld, htaken, hwline, hwadr]
      rfl
  · have hbuilt := htold hchanged
    rw [BreakTold, if_pos ⟨by rw [hwadr]; exact hhas, by rw [hwline, hwadr]; exact hown, by rw [hwinserted, hfree],
      by rw [hup, hlastUp, hspur, hlastSpur]; exact (unreported_iff s).mp hunreported⟩, hup, hspur, hwadr, hwline] at hbuilt
    obtain ⟨hup', hspur', x, hx, hdigits, -⟩ := hbuilt
    refine ⟨hup', hspur', x, hx, hdigits.trans ?_⟩
    rw [hw, ← State.heard_map s q.port]
    rfl
  · have hkept := hcalm (not_not.mpr hsame)
    exact ⟨hkept.lastUp.trans hlastUp, hkept.lastSpur.trans hlastSpur, (hkept.inserted.trans (hwinserted _)).symm⟩

end Sys2Proof.Proofs

/-! ## FULL reset (R12, R34, R61, R79, R89, R102, R110, R134, R148, R171) -/

namespace Sys2Proof.Proofs

open Sys2Proof Sys2Proof.Machine

/-- R15, R148: the reply of a reset, by the state in which it leaves the downstream transmitter. -/
theorem answered_released {s u : State} (hadr : u.adr = s.adr) (src : Addr) (seq : Digit) :
    if s.merge.tx = .ready then
      ((u.releaseTx s.merge.tx.abort).answered src seq 0#4 0#4 []).merge.tx = .send .reply 0 ∧
        ((u.releaseTx s.merge.tx.abort).answered src seq 0#4 0#4 []).mgmt.reply = .sending (replyDigits s src seq [0#4, 0#4])
    else
      (∃ n, ((u.releaseTx s.merge.tx.abort).answered src seq 0#4 0#4 []).merge.tx = .fill n) ∧
        ((u.releaseTx s.merge.tx.abort).answered src seq 0#4 0#4 []).mgmt.reply = .full (replyDigits s src seq [0#4, 0#4]) := by
  have hdigits : replyDigits (u.releaseTx s.merge.tx.abort) src seq [0#4, 0#4] = replyDigits s src seq [0#4, 0#4] :=
    replyDigits_of_adr _ _ _ hadr
  unfold State.answered State.replied
  rw [← hdigits]
  cases htx : s.merge.tx with
  | ready => exact ⟨rfl, rfl⟩
  | fill n => exact ⟨⟨n, rfl⟩, rfl⟩
  | send x n => exact ⟨⟨0, rfl⟩, rfl⟩

/-- R164: a FULL reset finds a BREAK due where the upstream state is SILENT, unless the part's own address is the report address
that it has set. -/
theorem breakDue_fullFlush {s : State} (h : s.adr ≠ Config.broadcast) :
    (fullFlush s).breakDue = true ↔ s.sup.up = .silent ∧ s.adr ≠ 0x00#7 := by
  rw [breakDue_iff]
  have hup : s.sup.up ≠ .live ↔ s.sup.up = .silent := by cases s.sup.up <;> simp
  change s.adr ≠ Config.broadcast ∧ 0x00#7 ≠ s.adr ∧ 0 = 0 ∧ (s.sup.up ≠ .live ∨ SpurState.disabled ≠ .disabled ∧ _) ↔ _
  rw [hup]
  constructor
  · rintro ⟨-, hadr, -, hsilent | ⟨hspur, -⟩⟩
    · exact ⟨hsilent, hadr.symm⟩
    · exact absurd rfl hspur
  · exact fun ⟨hsilent, hadr⟩ => ⟨h, hadr.symm, rfl, .inl hsilent⟩

/-- R148, R164: the part once a FULL reset has examined the conditions of a BREAK, which may have been built. -/
def fullBroken (s : State) (insertion : List Held) (up : UpState) : State :=
  { fullFlush s with
    merge := { (fullFlush s).merge with insertion := insertion }
    sup := { (fullFlush s).sup with lastUp := up } }

/-- The BREAK of a FULL reset. -/
def fullBreak (s : State) : Held :=
  { digits := (breakFrame s.adr 0x00#7 .silent .disabled 0#4).digits
    tag := .condition { oldUp := .live, oldSpur := .disabled, newUp := .silent, newSpur := .disabled } }

theorem examineBreak_fullFlush {s : State} (h : s.adr ≠ Config.broadcast) :
    ∃ insertion up, (fullFlush s).examineBreak = fullBroken s insertion up ∧
      (s.sup.up = .live ∨ s.adr = 0x00#7 → insertion = [] ∧ up = .live) ∧
      (s.sup.up = .silent → s.adr ≠ 0x00#7 → insertion = [fullBreak s] ∧ up = .silent) := by
  by_cases hdue : s.sup.up = .silent ∧ s.adr ≠ 0x00#7
  · have hbuilt : (fullFlush s).examineBreak = (fullFlush s).buildBreak := if_pos ((breakDue_fullFlush h).mpr hdue)
    have hinsert : (fullFlush s).buildBreak = fullBroken s [(fullFlush s).breakHeld] (fullFlush s).sup.up := insert_of_busy (show Tx.fill 0 ≠ .ready by nofun) _
    obtain ⟨hup, hadr⟩ := hdue
    have hsilent : (fullFlush s).sup.up = .silent := hup
    refine ⟨[fullBreak s], .silent, ?_, fun hno => absurd hno (not_or.mpr ⟨by simp [hup], hadr⟩), fun _ _ => ⟨rfl, rfl⟩⟩
    rw [hbuilt, hinsert, State.breakHeld, hsilent]
    rfl
  · exact ⟨[], .live, if_neg fun hc => hdue ((breakDue_fullFlush h).mp hc), fun _ => ⟨rfl, rfl⟩, fun hup hadr => absurd ⟨hup, hadr⟩ hdue⟩

theorem parse_reset (own : Addr) (full : Bool) : parseCommand own 0#4 [if full then 2#4 else 1#4] = .command (.reset full) := by
  cases full <;> rfl

/-- Settles O6: every block's FULL values, the BREAK of a SILENT part, and the reply. -/
theorem fullResetSetsEveryBlock : Obligations.FullResetSetsEveryBlock := by
  intro s q h
  obtain ⟨insertion, up, hbroken, hcalm, hsilent⟩ := examineBreak_fullFlush (s := s.heard q.port)
    (by rw [State.heard_adr]; exact adr_ne_broadcast_of_manages h)
  have hreset : (s.heard q.port).fullReset = (fullBroken (s.heard q.port) insertion up).releaseTx s.merge.tx.abort := by
    rw [fullReset_eq_fullFlush, hbroken, State.heard_merge]
  have hexec := exec_answered (c := .resetFull q) (status := 0#4) (data := []) h rfl (by simp) (parse_reset _ true)
    (u := (fullBroken (s.heard q.port) insertion up).releaseTx s.merge.tx.abort) (by rw [← hreset]; rfl) (commit_of_manages h)
  have hreply := answered_released (s := s) (u := fullBroken (s.heard q.port) insertion up) (State.heard_adr s q.port) q.src q.seq
  have hframe := answered_frame ((fullBroken (s.heard q.port) insertion up).releaseTx s.merge.tx.abort) q.src q.seq 0#4 0#4 []
  have hbreak : fullBreak (s.heard q.port) = fullBreak s := by rw [fullBreak, State.heard_adr]; rfl
  have hup : (s.heard q.port).sup.up = s.sup.up := by cases q.port <;> rfl
  rw [State.heard_adr, hup] at hcalm hsilent
  rw [hbreak] at hsilent
  refine ⟨_, hexec, ?_⟩
  generalize ((fullBroken (s.heard q.port) insertion up).releaseTx s.merge.tx.abort).answered q.src q.seq 0#4 0#4 [] = t at *
  have hinsertion : t.merge.insertion = insertion := by rw [hframe]; rfl
  have hlastUp : t.sup.lastUp = up := by rw [hframe]; rfl
  have hlastSpur : t.sup.lastSpur = .disabled := by rw [hframe]; rfl
  rw [hinsertion, hlastUp, hlastSpur]
  refine ⟨?_, ?_, ?_, ?_, ?_, ?_, ?_, ?_, fun hno => ?_, fun hs hadr => ?_, ?_, ?_, hreply, ?_, ?_, ?_, ?_, ?_, ?_, ?_, ?_, ?_, ?_, ?_, ?_, ?_, ?_⟩
  case refine_9 =>
    obtain ⟨hinsertion, hup⟩ := hcalm hno
    exact ⟨hinsertion, hup, rfl⟩
  case refine_10 =>
    obtain ⟨hinsertion, hup⟩ := hsilent hs hadr
    exact ⟨hinsertion, hup, rfl⟩
  case refine_16 =>
    rw [hframe]
    exact commit_of_manages h
  case refine_20 => exact fun c => (congrArg (Supervision.countOf · c) (congrArg State.sup hframe)).trans (tabulate_getElem _ _)
  all_goals rw [hframe]
  case refine_12 => exact congrArg (fun b : LineBlock => LineBlock.reset fun l => b.lines[l].sampled) (State.heard_line s q.port)
  case refine_24 => exact hup
  case refine_25 => exact State.heard_rate s q.port
  case refine_26 => exact State.heard_adr s q.port
  all_goals cases q.port <;> rfl

end Sys2Proof.Proofs

/-! ## What the discards of a TRAFFIC reset cause (R101, R111, R125, R126, R132, R164, R165; assumption log 3) -/

namespace Sys2Proof.Proofs

open Sys2Proof Sys2Proof.Machine

/-! ### Reports alone are built -/

/-- The settings of a line unit: all but the catch records, the retire fields and the sequence counter. -/
structure SameSettings (b c : LineBlock) : Prop where
  latches : c.latches = b.latches
  reportMode : c.reportMode = b.reportMode
  reportAddr : c.reportAddr = b.reportAddr
  sampleCode : c.sampleCode = b.sampleCode
  lines (l : Fin 12) : { c.lines[l] with retire := false } = { b.lines[l] with retire := false }

theorem SameSettings.refl (b : LineBlock) : SameSettings b b := ⟨rfl, rfl, rfl, rfl, fun _ => rfl⟩

theorem SameSettings.trans {b c d : LineBlock} (h : SameSettings b c) (k : SameSettings c d) : SameSettings b d :=
  ⟨k.latches.trans h.latches, k.reportMode.trans h.reportMode, k.reportAddr.trans h.reportAddr, k.sampleCode.trans h.sampleCode,
    fun l => (k.lines l).trans (h.lines l)⟩

theorem sameSettings_move {f : LineBlock → Fin 13 → LineBlock} {move : LineBlock → Fin 13 → Catch → Catch} {clears : Bool}
    (hf : MovesBy f move clears) (b : LineBlock) (l : Fin 13) : SameSettings b (f b l) :=
  ⟨by rw [hf.rest], by rw [hf.rest], by rw [hf.rest], by rw [hf.rest], fun i => by rw [hf.lines]⟩

theorem sameSettings_record (b : LineBlock) (ls : List (Fin 13)) (seq : Digit) :
    SameSettings b { b.record ls with eventSeq := seq } :=
  ⟨record_latches b ls, record_reportMode b ls, record_reportAddr b ls, record_sampleCode b ls, fun i => by rw [record_lines]⟩

/-- `t` has the grants and the line settings of `s`, and in its insertion queue no frames of others but EVENTs and BREAKs. -/
structure OnlyReports (s t : State) : Prop where
  tx : t.merge.tx = s.merge.tx
  pointer : t.merge.pointer = s.merge.pointer
  queue : ∀ x ∈ t.merge.insertion, x ∈ s.merge.insertion ∨ x.kind = .event ∨ x.kind = .breakReport
  settings : SameSettings s.line t.line

theorem OnlyReports.refl (s : State) : OnlyReports s s := ⟨rfl, rfl, fun _ hx => .inl hx, .refl _⟩

theorem OnlyReports.trans {s t u : State} (h : OnlyReports s t) (k : OnlyReports t u) : OnlyReports s u :=
  ⟨k.tx.trans h.tx, k.pointer.trans h.pointer, fun x hx => (k.queue x hx).elim (h.queue x) .inr, h.settings.trans k.settings⟩

/-- R96: with no grant to make, an insertion adds its frame. -/
theorem onlyReports_insert {s : State} (h : s.merge.tx ≠ .ready) {x : Held} (hx : x.kind = .event ∨ x.kind = .breakReport) :
    OnlyReports s (s.insert x) := by
  rw [insert_of_busy h]
  refine ⟨rfl, rfl, fun y hy => ?_, .refl _⟩
  rcases List.mem_append.mp hy with hy | hy
  · exact .inl hy
  · rw [List.mem_singleton.mp hy]
    exact .inr hx

theorem onlyReports_examineBreak {s : State} (h : s.merge.tx ≠ .ready) : OnlyReports s s.examineBreak := by
  unfold State.examineBreak
  split
  · have hsup : OnlyReports s (s.setSup { s.sup with lastUp := s.sup.up, lastSpur := s.spur.state }) :=
      ⟨rfl, rfl, fun _ hx => .inl hx, .refl _⟩
    exact hsup.trans (onlyReports_insert (s := s.setSup { s.sup with lastUp := s.sup.up, lastSpur := s.spur.state }) h
      (.inr (breakHeld_kind s)))
  · exact .refl s

theorem onlyReports_moveLines {f : LineBlock → Fin 13 → LineBlock} {move : LineBlock → Fin 13 → Catch → Catch} {clears : Bool}
    (hf : MovesBy f move clears) {s : State} (h : s.merge.tx ≠ .ready) (groups : List LineGroup) : OnlyReports s (s.moveLines f groups) := by
  have hset (u : State) {b : LineBlock} (hb : SameSettings u.line b) : OnlyReports u (u.setLines b) := ⟨rfl, rfl, fun _ hx => .inl hx, hb⟩
  refine moveLines_induction (R := fun _ u => OnlyReports s u) (fun l _ u hu => hu.trans (hset u (sameSettings_move hf _ l)))
    (fun _ u _ hu => ?_) (fun _ u hu => hu.trans ⟨rfl, rfl, fun _ hx => .inl hx, .refl _⟩) groups s (.refl s)
  have hbusy : u.merge.tx ≠ .ready := by rwa [hu.tx]
  have hrecord : OnlyReports u (u.setLines { u.line.record u.line.eventLines with eventSeq := u.line.eventSeq + 1#4 }) :=
    hset u (sameSettings_record _ _ _)
  exact (hu.trans hrecord).trans (onlyReports_insert (by rwa [hrecord.tx]) (.inl (eventHeld_kind u)))

/-! ### The discards and the BREAK, in either order -/

theorem discardReports_eventEffect (s : State) (lost : List Held) : EventEffect s (s.discardReports lost) := eventEffect_moveLines _ _ _

theorem discardReports_sup (s : State) (lost : List Held) : (s.discardReports lost).sup = s.sup := by
  obtain ⟨-, -, -, -, -, -, -, -, -, hsup, -⟩ := (discardReports_eventEffect s lost).frame
  exact hsup

theorem keepsReports_discardReports {s : State} (h : s.merge.tx ≠ .ready) (lost : List Held) : KeepsReports s (s.discardReports lost) := by
  obtain ⟨hinserted, hqueue⟩ := keepsBreaks_moveLines LineBlock.discard (reportGroups lost) s
  have hsup := discardReports_sup s lost
  exact ⟨(keepsRest_of_eventEffect (discardReports_eventEffect s lost)).adr, (onlyReports_moveLines movesBy_discard h _).settings.reportAddr, hinserted, by rw [hsup], by rw [hsup], hqueue⟩

/-- The lines that a list of frames names are REPORTING, and none is named twice. -/
def Reporting (b : LineBlock) (lost : List Held) : Prop :=
  (taggedLines lost).Nodup ∧ ∀ l ∈ taggedLines lost, (b.catchOf l).state = .reporting

/-- R125, R126, R132, R164: some frames have been discarded and R164 examined, in either order. -/
structure Discarded (s t : State) (lost : List Held) : Prop where
  rest : KeepsRest s t
  only : OnlyReports s t
  lines : Reporting s.line lost → ∃ ls, recordsDiscarded s t lost ls
  told : BreakTold s t s.sup.up s.spur.state s.map.generation
  breaks : t.inserted .breakReport = s.inserted .breakReport + if s.breakDue then 1 else 0

theorem inserted_examineBreak (s : State) :
    s.examineBreak.inserted .breakReport = s.inserted .breakReport + if s.breakDue then 1 else 0 := by
  unfold State.examineBreak
  split
  · exact inserted_insert_eq (s.setSup { s.sup with lastUp := s.sup.up, lastSpur := s.spur.state }) s.breakHeld .breakReport
  · rfl

theorem recordsDiscarded_after {s t u : State} {lost : List Held} {ls : List (Fin 13)} (h : recordsDiscarded s t lost ls)
    (k : KeepsLines t u) : recordsDiscarded s u lost ls := by
  obtain ⟨hmoved, hreleased⟩ := h
  refine ⟨LinesMoved.after hmoved k, fun l => ?_⟩
  rw [k.line]
  exact hreleased l

theorem recordsDiscarded_before {s t u : State} {lost : List Held} {ls : List (Fin 13)} (h : recordsDiscarded t u lost ls)
    (k : KeepsLines s t) : recordsDiscarded s u lost ls := by
  obtain ⟨hmoved, hreleased⟩ := h
  rw [LinesReleased, k.line] at hreleased
  rw [k.line] at hmoved
  exact ⟨LinesMoved.before hmoved k, hreleased⟩

section
variable {s : State} (h : s.merge.tx ≠ .ready) (lost : List Held)
include h

theorem discarded_reports_first : Discarded s (s.discardReports lost).examineBreak lost := by
  have hreports := onlyReports_moveLines movesBy_discard h (reportGroups lost)
  have hrest := keepsRest_of_eventEffect (discardReports_eventEffect s lost)
  have hkept := keepsReports_discardReports h lost
  have hsup := discardReports_sup s lost
  refine ⟨hrest.trans (keepsRest_examineBreak _), hreports.trans (onlyReports_examineBreak (by rwa [hreports.tx])), fun hlost => ?_, ?_, ?_⟩
  · obtain ⟨hnodup, hreporting⟩ := hlost
    obtain ⟨ls, hmoved, -⟩ := linesMoved_discards s hnodup hreporting
    exact ⟨ls, recordsDiscarded_after hmoved (keepsLines_examineBreak _)⟩
  · have htold := BreakTold.before (breakTold_examineBreak (s.discardReports lost)) hkept
    rwa [hsup, hrest.spur, hrest.map] at htold
  · have hdue : (s.discardReports lost).breakDue = s.breakDue := by
      unfold State.breakDue State.unreported State.addressed
      rw [hkept.adr, hkept.reportAddr, hkept.inserted, hsup, hrest.spur]
    rw [inserted_examineBreak, hkept.inserted, hdue]

theorem discarded_break_first : Discarded s (s.examineBreak.discardReports lost) lost := by
  have hbreak := onlyReports_examineBreak h
  have hbusy : s.examineBreak.merge.tx ≠ .ready := by rwa [hbreak.tx]
  have hlines := keepsLines_examineBreak s
  have hkept := keepsReports_discardReports hbusy lost
  refine ⟨(keepsRest_examineBreak s).trans (keepsRest_of_eventEffect (discardReports_eventEffect _ lost)),
    hbreak.trans (onlyReports_moveLines movesBy_discard hbusy _), fun hlost => ?_, BreakTold.after (breakTold_examineBreak s) hkept, ?_⟩
  · obtain ⟨hnodup, hreporting⟩ := hlost
    obtain ⟨ls, hmoved, -⟩ := linesMoved_discards s.examineBreak hnodup (by rwa [hlines.line])
    exact ⟨ls, recordsDiscarded_before hmoved hlines⟩
  · rw [hkept.inserted, inserted_examineBreak]

end

theorem Discarded.of_consume {s t : State} {lost : List Held} (h : Discarded s.consume t lost) : Discarded s t lost := by
  have hrest : KeepsRest s s.consume := ⟨rfl, rfl, rfl, rfl, rfl, rfl, rfl, rfl, rfl, rfl, rfl, rfl, rfl, rfl, rfl, rfl⟩
  have hlines : KeepsLines s s.consume := .of_same rfl rfl rfl
  have hreports : KeepsReports s s.consume := .of_same rfl rfl rfl rfl rfl
  refine ⟨hrest.trans h.rest, ⟨h.only.tx, h.only.pointer, h.only.queue, h.only.settings⟩, fun hlost => ?_, BreakTold.before h.told hreports, h.breaks⟩
  obtain ⟨ls, hmoved⟩ := h.lines hlost
  exact ⟨ls, recordsDiscarded_before hmoved hlines⟩

theorem discarded_eitherOrder {s : State} (h : s.merge.tx ≠ .ready) (lost : List Held) :
    Discarded s (s.eitherOrder (fun u => u.discardReports lost) State.examineBreak) lost := by
  unfold State.eitherOrder
  split
  · split
    · exact (discarded_reports_first (s := s.consume) h lost).of_consume
    · exact (discarded_break_first (s := s.consume) h lost).of_consume
  · exact discarded_reports_first h lost

end Sys2Proof.Proofs

/-! ## TRAFFIC reset (R12, R35, R89, R101, R111, R125, R126, R132, R135, R148, R164, R165, R171) -/

namespace Sys2Proof.Proofs

open Sys2Proof Sys2Proof.Machine

/-! ### Frames discarded in an order that is left open -/

theorem conditionTags_perm {hs ks : List Held} (h : hs.Perm ks) : (conditionTags hs).Perm (conditionTags ks) := h.filterMap _

/-- With one BREAK at most, the order of the discards does not matter to the records. -/
theorem conditionTags_of_perm {hs ks : List Held} (h : hs.Perm ks) {tag : Option ConditionTag} (hks : conditionTags ks = tag.toList) :
    conditionTags hs = tag.toList := by
  have hperm := conditionTags_perm h
  rw [hks] at hperm
  cases tag with
  | none => exact hperm.eq_nil
  | some c => exact List.perm_singleton.mp hperm

/-- R165: each discarded BREAK sets the records back. -/
theorem discardBreaks_eq (s : State) (hs : List Held) :
    s.discardBreaks hs = s.setSup ((conditionTags hs).foldl Supervision.revert s.sup) := by
  unfold State.discardBreaks
  induction hs generalizing s with
  | nil => rfl
  | cons h rest ih =>
    rw [List.foldl_cons, ih]
    obtain ⟨ds, tag⟩ := h
    cases tag <;> rfl

theorem reverted_rest (cs : List ConditionTag) (x : Supervision) :
    cs.foldl Supervision.revert x =
      { x with lastUp := (cs.foldl Supervision.revert x).lastUp, lastSpur := (cs.foldl Supervision.revert x).lastSpur } := by
  induction cs generalizing x with
  | nil => rfl
  | cons c rest ih =>
    rw [List.foldl_cons, ih]
    rfl

theorem reverted_records (tag : Option ConditionTag) (x : Supervision) :
    (tag.toList.foldl Supervision.revert x).lastUp = (match tag with
      | none => x.lastUp
      | some c => recordReverted x.lastUp c.newUp c.oldUp) ∧
    (tag.toList.foldl Supervision.revert x).lastSpur = (match tag with
      | none => x.lastSpur
      | some c => recordReverted x.lastSpur c.newSpur c.oldSpur) := by
  cases tag <;> exact ⟨rfl, rfl⟩

theorem recordsDiscarded_perm {s t : State} {lost lost' : List Held} {ls : List (Fin 13)} (h : recordsDiscarded s t lost ls)
    (hperm : lost.Perm lost') : recordsDiscarded s t lost' ls := by
  obtain ⟨hmoved, hreleased⟩ := h
  have hnamed (l : Fin 13) : l ∈ taggedLines lost ↔ l ∈ taggedLines lost' := (taggedLines_perm hperm).mem_iff
  have hgone : (∃ h ∈ lost, h.kind = .event ∧ ∃ x, h.tag = .report x) ↔ ∃ h ∈ lost', h.kind = .event ∧ ∃ x, h.tag = .report x := by
    simp only [hperm.mem_iff]
  rw [hgone] at hmoved
  refine ⟨linesMoved_congr rfl rfl rfl hnamed hmoved, fun l => ?_⟩
  rw [hreleased l]
  simp only [hnamed]

/-- R95, R127: what the discarded frames report is what the part reports. -/
theorem mem_taggedLines_heldInQueues {s : State} (h : ReportingLaw s) (l : Fin 13) :
    l ∈ taggedLines (heldInQueues s) ↔ l ∈ s.reportedLines := by
  obtain ⟨-, -, huntagged⟩ := h
  rw [heldInQueues, taggedLines_append, taggedLines_append, taggedLines_append, taggedLines_of_untagged huntagged, List.append_nil]
  rfl

theorem reporting_of_heldInQueues {s : State} (h : ReportingLaw s) {lost : List Held} (hlost : lost.Perm (heldInQueues s)) :
    Reporting s.line lost := by
  have hnames (l : Fin 13) := mem_taggedLines_heldInQueues h l
  obtain ⟨hnodup, hreporting, huntagged⟩ := h
  have hperm := taggedLines_perm hlost
  refine ⟨hperm.nodup_iff.mpr ?_, fun l hl => (hreporting l).mpr ((hnames l).mp (hperm.mem_iff.mp hl))⟩
  rw [heldInQueues, taggedLines_append, taggedLines_append, taggedLines_append, taggedLines_of_untagged huntagged, List.append_nil]
  exact hnodup

/-! ### The reset -/

/-- R12, R35, R89, R101, R111, R165: a TRAFFIC reset before it notifies the line unit and examines the conditions of a BREAK. -/
def trafficLeft (s : State) (x : Supervision) (c : Nat) : State :=
  { s with
    upRx := s.upRx.abandon
    spurRx := s.spurRx.abandon
    gapCount := 0
    run := .closed
    merge := { s.merge with transit := [], spurReturn := [], insertion := [], pointer := 0, tx := .fill 0 }
    spur := { s.spur with queue := [], tx := s.spur.tx.abort }
    sup := x
    choices := c }

theorem trafficReset_discarded (s : State) :
    ∃ c v, Discarded (trafficLeft s ((conditionTags s.trafficLosses).foldl Supervision.revert s.sup) c) v s.trafficLosses ∧
      s.trafficReset = v.releaseTx s.merge.tx.abort := by
  obtain ⟨c, hc⟩ : ∃ c, ((if s.line.reportMode = .event then s.consume else s).trafficFlush).discardBreaks s.trafficLosses =
      trafficLeft s ((conditionTags s.trafficLosses).foldl Supervision.revert s.sup) c := by
    rw [discardBreaks_eq, trafficFlush_eq]
    split
    · exact ⟨s.choices + 1, rfl⟩
    · exact ⟨s.choices, rfl⟩
  refine ⟨c, _, discarded_eitherOrder (show Tx.fill 0 ≠ .ready by nofun) s.trafficLosses, ?_⟩
  rw [← hc]
  rfl

theorem heldInQueues_heard (s : State) (p : Port) : heldInQueues (s.heard p) = heldInQueues s := by cases p <;> rfl

/-- R101, R164: with the insertion queue emptied, a BREAK is built exactly where a state is unreported. -/
theorem breakTold_trafficLeft {s v : State} {x : Supervision} {c : Nat} (haddr : s.adr ≠ Config.broadcast)
    (htold : BreakTold (trafficLeft s x c) v x.up s.spur.state s.map.generation)
    (hbreaks : v.inserted .breakReport = (trafficLeft s x c).inserted .breakReport + if (trafficLeft s x c).breakDue then 1 else 0) :
    if s.line.reportAddr ≠ s.adr ∧ (x.up ≠ x.lastUp ∨ s.spur.state ≠ .disabled ∧ s.spur.state ≠ x.lastSpur) then
      v.sup.lastUp = x.up ∧ v.sup.lastSpur = s.spur.state ∧ v.inserted .breakReport = 1 ∧
      ∃ h ∈ v.merge.insertion, h.digits = (breakFrame s.adr s.line.reportAddr x.up s.spur.state s.map.generation).digits ∧
        h.tag = .condition { oldUp := x.lastUp, oldSpur := x.lastSpur, newUp := x.up, newSpur := s.spur.state }
    else v.sup.lastUp = x.lastUp ∧ v.sup.lastSpur = x.lastSpur ∧ v.inserted .breakReport = 0 := by
  have hdue := breakDue_iff (trafficLeft s x c)
  by_cases hc : s.line.reportAddr ≠ s.adr ∧ (x.up ≠ x.lastUp ∨ s.spur.state ≠ .disabled ∧ s.spur.state ≠ x.lastSpur)
  · obtain ⟨hother, hstale⟩ := hc
    rw [BreakTold, if_pos ⟨haddr, hother, rfl, hstale⟩] at htold
    rw [if_pos (hdue.mpr ⟨haddr, hother, rfl, hstale⟩)] at hbreaks
    rw [if_pos ⟨hother, hstale⟩]
    obtain ⟨hlastUp, hlastSpur, hbreak⟩ := htold
    exact ⟨hlastUp, hlastSpur, hbreaks, hbreak⟩
  · have hno : ¬(trafficLeft s x c).breakDue = true := fun hd => by
      obtain ⟨-, hother, -, hstale⟩ := hdue.mp hd
      exact hc ⟨hother, hstale⟩
    rw [if_neg hno] at hbreaks
    rw [if_neg hc]
    unfold BreakTold at htold
    split at htold
    · next hd =>
      obtain ⟨-, hother, -, hstale⟩ := hd
      exact absurd ⟨hother, hstale⟩ hc
    · obtain ⟨hlastUp, hlastSpur, -⟩ := htold
      exact ⟨hlastUp, hlastSpur, hbreaks⟩

/-- R125, R126: in report mode POLL a discard moves the lines that it names, and no other. -/
theorem recordsDiscarded_poll {s t : State} {lost : List Held} {ls : List (Fin 13)} (h : recordsDiscarded s t lost ls)
    (hpoll : s.line.reportMode = .poll) (l : Fin 13) :
    t.line.catchOf l = if l ∈ taggedLines lost then discardMove s.line l (s.line.catchOf l) else s.line.catchOf l := by
  obtain ⟨⟨-, hbuilt, -, -, -, first, -, -, hcatch⟩, -⟩ := h
  have hnone : ls = [] := by
    by_contra hne
    obtain ⟨hevent, -⟩ := hbuilt.mp hne
    exact absurd (hpoll.symm.trans hevent) (by simp)
  rw [hcatch, if_neg (by simp [hnone]), movedCatch]

/-- Settles O5: what the reset discards at once, and what the discards cause. -/
theorem trafficResetFlushesTheQueues : Obligations.TrafficResetFlushesTheQueues := by
  intro s q h
  obtain ⟨c, v, hdiscarded, hreset⟩ := trafficReset_discarded (s.heard q.port)
  have hperm : (s.heard q.port).trafficLosses.Perm (heldInQueues s) := by
    rw [← heldInQueues_heard s q.port]
    exact trafficLosses_perm (s.heard q.port)
  generalize (s.heard q.port).trafficLosses = lost at *
  obtain ⟨x, hx⟩ : ∃ x, x = (conditionTags lost).foldl Supervision.revert (s.heard q.port).sup := ⟨_, rfl⟩
  have hxrest := reverted_rest (conditionTags lost) (s.heard q.port).sup
  rw [← hx] at hdiscarded hxrest
  obtain ⟨hrest, honly, hlines, htold, hbreaks⟩ := hdiscarded
  rw [State.heard_merge] at hreset
  have hadr : v.adr = s.adr := hrest.adr.trans (State.heard_adr s q.port)
  have hexec := exec_answered (c := .resetTraffic q) (status := 0#4) (data := []) h rfl (by simp) (parse_reset _ false)
    (u := v.releaseTx s.merge.tx.abort) (by rw [← hreset]; rfl) (hrest.commit.trans (commit_of_manages h))
  have hreply := answered_released hadr q.src q.seq
  have hframe := answered_frame (v.releaseTx s.merge.tx.abort) q.src q.seq 0#4 0#4 []
  refine ⟨_, hexec, ?_⟩
  generalize (v.releaseTx s.merge.tx.abort).answered q.src q.seq 0#4 0#4 [] = t at *
  have hsup : t.sup = { (s.heard q.port).sup with lastUp := t.sup.lastUp, lastSpur := t.sup.lastSpur } := by
    have hv : t.sup = v.sup := by rw [hframe]; rfl
    rw [hv]
    refine hrest.sup.trans ?_
    change { x with lastUp := v.sup.lastUp, lastSpur := v.sup.lastSpur } = _
    rw [hxrest]
  have hmerge : t.merge = { v.merge with tx := t.merge.tx } := by rw [hframe]; rfl
  have hsettings : SameSettings s.line t.line := by
    have hline : t.line = v.line := by rw [hframe]; rfl
    rw [hline, ← State.heard_line s q.port]
    exact honly.settings
  have hrecords (hlaw : ReportingLaw s) :
      ∃ ls, recordsDiscarded { s with merge := { s.merge with insertion := [] } } t (heldInQueues s) ls := by
    have hreporting := reporting_of_heldInQueues hlaw hperm
    rw [← State.heard_line s q.port] at hreporting
    obtain ⟨ls, hmoved⟩ := hlines hreporting
    have hbefore : KeepsLines { s with merge := { s.merge with insertion := [] } } (trafficLeft (s.heard q.port) x c) :=
      .of_same (State.heard_line s q.port) (State.heard_adr s q.port) rfl
    have hafter : KeepsLines v t := .of_same (by rw [hframe]; rfl) (by rw [hframe]; rfl) (by rw [hmerge])
    exact ⟨ls, recordsDiscarded_perm (recordsDiscarded_after (recordsDiscarded_before hmoved hbefore) hafter) hperm⟩
  refine ⟨?_, ?_, ?_, ?_, ?_, hreply, ?_, ?_, ?_, ?_, ?_, ?_, ?_, ?_, ?_, ?_, ?_, ?_, ?_, ?_, ?_, ?_, ?_, ?_, ?_, ?_, ?_, ?_, ?_, ?_, ?_, ?_⟩
  · rw [hmerge]; exact hrest.transit
  · rw [hmerge]; exact hrest.spurReturn
  · rw [hframe]; exact congrArg SpurUnit.queue hrest.spur
  · rw [hmerge]; exact honly.pointer
  · intro y hy
    rw [hmerge] at hy
    exact (honly.queue y hy).resolve_left List.not_mem_nil
  · rw [hframe]
  · rw [hframe]; exact hrest.manager0.trans (congrArg Management.manager0 (State.heard_mgmt s q.port))
  · rw [hframe]; exact hrest.manager1.trans (congrArg Management.manager1 (State.heard_mgmt s q.port))
  · rw [hframe]; exact hrest.commit.trans (commit_of_manages h)
  · rw [hframe]; exact hrest.gapCount
  · rw [hframe]; exact hrest.run
  · rw [hframe]; exact hrest.map.trans (State.heard_map s q.port)
  · rw [hframe]; exact hrest.upRx
  · rw [hframe]; exact hrest.spurRx
  · rw [hframe]
    refine hrest.spur.trans ?_
    cases q.port <;> rfl
  · rw [hsup]; exact State.heard_sup_latches s q.port
  · rw [hsup]; exact State.heard_sup_counters s q.port
  · rw [hsup]; cases q.port <;> rfl
  · rw [hsup]; cases q.port <;> rfl
  · rw [hsup]; cases q.port <;> rfl
  · rw [hsup]; cases q.port <;> rfl
  · exact hsettings.latches
  · exact hsettings.reportMode
  · exact hsettings.reportAddr
  · exact hsettings.sampleCode
  · exact hsettings.lines
  · rw [hframe]; exact hrest.rate.trans (State.heard_rate s q.port)
  · rw [hframe]; exact hadr
  · intro hlaw hpoll
    obtain ⟨ls, hmoved⟩ := hrecords hlaw
    have hcatch := recordsDiscarded_poll hmoved hpoll
    have hnamed := mem_taggedLines_heldInQueues hlaw
    refine ⟨fun l => ?_, fun l => ?_, ?_⟩
    · rw [hcatch]
      simp only [hnamed, discardMove, retire_pinLine, catches_pinLine, decide_eq_true_eq]
    · obtain ⟨-, hreleased⟩ := hmoved
      rw [hreleased l]
      simp only [hnamed]
    · rw [hcatch]
      simp only [hnamed, discardMove, retire_pseudoLine]
      rfl
  · exact hrecords
  · intro tag up spur htags hup hspur
    obtain ⟨hlastUp, hlastSpur⟩ := reverted_records tag (s.heard q.port).sup
    rw [← conditionTags_of_perm hperm htags, ← hx] at hlastUp hlastSpur
    have hxup : x.lastUp = up := by rw [hlastUp, hup]; cases q.port <;> rfl
    have hxspur : x.lastSpur = spur := by rw [hlastSpur, hspur]; cases q.port <;> rfl
    have hxstate : x.up = s.sup.up := by rw [hxrest]; cases q.port <;> rfl
    have htinserted : t.inserted .breakReport = v.inserted .breakReport := by rw [State.inserted, hmerge]; rfl
    have htv : t.sup = v.sup := by rw [hframe]; rfl
    have hbuilt := breakTold_trafficLeft (by rw [State.heard_adr]; exact adr_ne_broadcast_of_manages h) htold hbreaks
    rw [State.heard_line, State.heard_adr, State.heard_spur_state, State.heard_map, hxup, hxspur, hxstate] at hbuilt
    rw [htinserted, htv, hmerge]
    exact hbuilt

end Sys2Proof.Proofs
